-- ==== Sys2Proof/Word.lean ====
section
/-! DEFINITION. The word types of the frame engine (00_scope.md R9: "A byte is 8 bits"; 30_encoding.md R81: "The input record is 68 bits wide"). -/

namespace Sys2Proof

/-- One byte (R9). -/
abbrev Byte := BitVec 8

/-- A 16-bit field: an object index, a checksum, a threshold (R71, R100, R30). -/
abbrev Half := BitVec 16

/-- A 32-bit field: command data, a transport count, a timer generation (R71, R190, R31). -/
abbrev Word := BitVec 32

/-- One record of the input port `EVT` (R81). -/
abbrev Record := BitVec 68

/-- The bytes of a response header before its checksum (R74): the length byte, and the bytes a `P_RSP_HDR_LEN` above 3 adds
after it, none in the format of R74 (entry 7). -/
structure RspHead where
  h0 : Byte
  fill : List Byte
  deriving DecidableEq, Repr

end Sys2Proof
end

