-- ==== Sys2Proof/Config.lean ====
section
/-! DEFINITION. The parameters of 00_scope.md R8, the eight transaction states (10_state.md R23), and the free values: constants with no body, so that nothing can be proved of them but what holds for every value. -/

namespace Sys2Proof

/-- The eight values of the register `STATE`, in the source's order (R23). -/
inductive TransactionState where
  | ready
  | sendingOpcode
  | waitingBeginAck
  | sendingData
  | waitingEndAck
  | waitingResponseLength
  | waitingResponseData
  | sendingResponseAck
  deriving DecidableEq, Repr

/-- The 3-bit code of a state (R23). -/
def TransactionState.code : TransactionState → BitVec 3
  | .ready => 0
  | .sendingOpcode => 1
  | .waitingBeginAck => 2
  | .sendingData => 3
  | .waitingEndAck => 4
  | .waitingResponseLength => 5
  | .waitingResponseData => 6
  | .sendingResponseAck => 7

/-- `P_CRC_ORDER`: the bit order of the CRC register update (R8, R100). -/
inductive CrcOrder where
  | lsbFirst
  | msbFirst
  deriving DecidableEq, Repr

/-- `P_READ_PATH`: whether read_object is admitted or refused (R8, R171). -/
inductive ReadPath where
  | enabled
  | refused
  deriving DecidableEq, Repr

/-- What one unit of a response's length byte counts (R8 "length unit"): the two readings of 90_conflicts.md C7.
DESIGN CHOICE (entry 7): that these are its values. -/
inductive LengthUnit where
  /-- A 16-bit word, the reading R73 takes. -/
  | word
  /-- A byte, the other reading of C7. -/
  | byte
  deriving DecidableEq, Repr

/-- The bytes in one unit of length (R73, 90_conflicts.md C7). -/
def LengthUnit.bytes : LengthUnit → Nat
  | .word => 2
  | .byte => 1

/-- What the checksum after the response data covers (R8 "checksum coverage"): the two readings of
90_conflicts.md C6. DESIGN CHOICE (entry 7): that these are its values. -/
inductive Coverage where
  /-- The length byte and the data, the reading R75 takes. -/
  | lengthAndData
  /-- The length byte, its checksum and the data: "the full response frame" read literally (C6). -/
  | fullFrame
  deriving DecidableEq, Repr

/-- `P_RESP_FORMAT`: the response frame format (R8, D8). Its header length is the parameter `P_RSP_HDR_LEN`. -/
structure RespFormat where
  lenUnit : LengthUnit
  coverage : Coverage
  deriving DecidableEq, Repr

/-- `P_T_WAIT(s)`: the wait bound of each non-Ready state (R8). A label of the timer's arming and nothing else (I1, D18). -/
structure WaitBounds where
  sendingOpcode : Nat
  waitingBeginAck : Nat
  sendingData : Nat
  waitingEndAck : Nat
  waitingResponseLength : Nat
  waitingResponseData : Nat
  sendingResponseAck : Nat
  deriving DecidableEq, Repr

/-- The bound of a state; `Ready` has none, and no wait is armed for it (R132). -/
def WaitBounds.of (b : WaitBounds) : TransactionState → Nat
  | .ready => 0
  | .sendingOpcode => b.sendingOpcode
  | .waitingBeginAck => b.waitingBeginAck
  | .sendingData => b.sendingData
  | .waitingEndAck => b.waitingEndAck
  | .waitingResponseLength => b.waitingResponseLength
  | .waitingResponseData => b.waitingResponseData
  | .sendingResponseAck => b.sendingResponseAck

/-- The implementation parameters, every row of R8's table: "A model takes each one as an argument of its configuration."
They are fixed before reset (R60) and stand in `State.cfg`; no step changes them. -/
structure Config where
  /-- `P_MAX_PAYLOAD`: the largest request payload in bytes, length byte included. -/
  maxPayload : Nat
  /-- `P_TX_CAP`: the `tx_free` count that means "fully free". DESIGN CHOICE (entry 16): 16 bits, the width of `TX_THR`. -/
  txCap : Half
  /-- `P_CRC_ORDER`. -/
  crcOrder : CrcOrder
  /-- `P_RESP_FORMAT`. -/
  respFormat : RespFormat
  /-- `P_READ_PATH`. -/
  readPath : ReadPath
  /-- `P_T_WAIT(s)`. -/
  tWait : WaitBounds
  /-- `P_OP_WRITE`: the write-object opcode. -/
  opWrite : Byte
  /-- `P_OP_READ`: the read-object opcode. -/
  opRead : Byte
  /-- `P_ACK`: the accept byte. -/
  ack : Byte
  /-- `P_RSP_ACK`: the byte the block sends after a valid response. -/
  rspAck : Byte
  /-- `P_RSP_HDR_LEN`: the response header length in bytes. DESIGN CHOICE (entry 16): 16 bits, the width of `RX_THR`. -/
  rspHdrLen : Half
  deriving DecidableEq, Repr

/-- The values R8 uses "for every test vector in 95_test_vectors.md". R8 leaves two OPEN. DESIGN CHOICE: `P_TX_CAP` is that
of the vectors (entry 6), and `P_T_WAIT(s)`, which no vector reads, is 1 (entry 8). -/
def Config.reference : Config where
  maxPayload := 14
  txCap := 14
  crcOrder := .lsbFirst
  respFormat := ⟨.word, .lengthAndData⟩
  readPath := .enabled
  tWait := ⟨1, 1, 1, 1, 1, 1, 1⟩
  opWrite := 0x11
  opRead := 0x10
  ack := 0x4F
  rspAck := 0x4F
  rspHdrLen := 3

/-- Free value (entry 3): the `k`-th count the transport answers when `State.answers` holds none (R190, I7). -/
opaque Config.freeCount : Nat → Word

/-- Free value (entry 4): byte `j` of a read whose answer is outside the contract (R190, I7, I8). -/
opaque Config.freeByte : Nat → Nat → Byte

/-- Free value (entry 4): bytes a transport buffer holds, or has sent, after an anomalous answer (R190, I8). -/
opaque Config.freeFifo : Nat → List Byte

/-- Free value (entry 4): a threshold the transport holds after an anomalous answer (I8). -/
opaque Config.freeThreshold : Nat → Half

/-- Free value (entry 5): whether `UartDiscardTx` left the byte at place `j` of the transmit buffer in it (R200, I11). -/
opaque Config.freeKeep : Nat → Nat → Bool

end Sys2Proof
end

