-- ==== Sys2Proof/Syntax.lean ====
section
/-! DEFINITION. The instructions of the frame engine, one constructor per row of spec/opcode_table.json: the wire units of 30_encoding.md R70 to R76 and the `EVT` records of R81 (00_scope.md R1). -/

namespace Sys2Proof

/-- The fifteen rows of the opcode table. -/
inductive Instr where
  /-- WRITE_OBJECT: the opcode byte `P_OP_WRITE`, 0x11, block to device (R70 unit 1, R80). -/
  | writeObject
  /-- READ_OBJECT: the opcode byte `P_OP_READ`, 0x10, block to device (R70 unit 1, R80). -/
  | readObject
  /-- WRITE_BODY: the 11-byte write-object request body, block to device (R71). -/
  | writeBody (index : Half) (subindex node : Byte) (data : Word) (crc : Half)
  /-- READ_BODY: the 7-byte read-object request body, block to device (R72). -/
  | readBody (index : Half) (subindex node : Byte) (crc : Half)
  /-- ACK_ACCEPT: the ack byte `P_ACK`, 0x4F, device to block (R76). -/
  | ackAccept
  /-- ACK_REJECT: an ack byte other than `P_ACK`, device to block (R76). -/
  | ackReject (b : Byte)
  /-- RSP_HEADER: the response header, device to block (R74): the length byte with what follows it, and the checksum. -/
  | rspHeader (head : RspHead) (crc : Half)
  /-- RSP_DATA: the response data and its checksum, device to block (R75). -/
  | rspData (data : List Byte) (crc : Half)
  /-- RESPONSE_ACK: the byte `P_RSP_ACK`, 0x4F, the block sends after a valid response (R76). -/
  | responseAck
  /-- CMD_WRITE_OBJECT: `EVT` record of KIND 0 (R81, R170). -/
  | cmdWriteObject (index : Half) (subindex node : Byte) (data : Word)
  /-- CMD_READ_OBJECT: `EVT` record of KIND 1 (R81, R171). -/
  | cmdReadObject (index : Half) (subindex node : Byte)
  /-- CANCEL: `EVT` record of KIND 2 (R81, R194). -/
  | cancel (tag : Byte)
  /-- NOTIFY: `EVT` record of KIND 3, two counts in two's complement (R81, R191). -/
  | notify (rx tx : Word)
  /-- TIMER_FIRED: `EVT` record of KIND 4 (R81, R193). -/
  | timerFired (gen : Word)
  /-- RESERVED_KIND: an `EVT` record of KIND 5 to 15 (R83). -/
  | reservedKind (kind : BitVec 4) (rest : BitVec 64)
  deriving DecidableEq, Repr

end Sys2Proof
end

