-- ==== Sys2Proof/WellFormed.lean ====
section
/-! DEFINITION. Which terms of `Instr` spell a row of the opcode table: the operand limits that the operand types do not already carry. -/

namespace Sys2Proof

/-- The operand limits of the opcode table. Every other operand value is legal (30_encoding.md R83, D34).
`ackReject`: any byte but `P_ACK` (R76). `rspHeader`: `P_RSP_HDR_LEN` bytes (R74). `rspData`: `DECL_LEN = 2 * (L + 1)` bytes
for a length byte `L`, the 2 being the length unit of `P_RESP_FORMAT` (R73, R74). `reservedKind`: KIND 5 to 15 (R83). -/
def Instr.WellFormed (c : Config) : Instr → Bool
  | .ackReject b => b != c.ack
  | .rspHeader head _ => head.fill.length + 3 == c.rspHdrLen.toNat
  | .rspData data _ =>
    data.length % c.respFormat.lenUnit.bytes == 0 && c.respFormat.lenUnit.bytes ≤ data.length &&
      data.length ≤ 256 * c.respFormat.lenUnit.bytes
  | .reservedKind kind _ => 5 ≤ kind.toNat
  | .writeObject | .readObject | .writeBody .. | .readBody .. | .ackAccept | .responseAck
  | .cmdWriteObject .. | .cmdReadObject .. | .cancel .. | .notify .. | .timerFired .. => true

end Sys2Proof
end

