-- ==== Sys2Proof/Decode.lean ====
section
/-! DEFINITION. Decoding what stands on a port of the block, and the encoder: the wire units of 30_encoding.md R70 to R78 and the 68-bit records of R81 to R83; the byte-order helpers they use (20_memory.md R50 to R52). -/

namespace Sys2Proof

/-- `lo8(v) = v[7:0]` (R9). -/
def lo8 (v : Half) : Byte := v.extractLsb' 0 8

/-- `hi8(v) = v[15:8]` (R9). -/
def hi8 (v : Half) : Byte := v.extractLsb' 8 8

/-- The 16-bit field whose low byte comes first: `s[k] + 256 * s[k+1]` (R50, R52). -/
def join16 (b0 b1 : Byte) : Half := b1 ++ b0

/-- Byte `i` of a 32-bit field, little-endian: `d[8i+7:8i]` (R52). -/
def byte32 (d : Word) (i : Nat) : Byte := d.extractLsb' (8 * i) 8

/-- The 32-bit field of four bytes, least significant first (R50, R52). -/
def join32 (b0 b1 b2 b3 : Byte) : Word := b3 ++ b2 ++ b1 ++ b0

/-- A 16-bit field as its two bytes on the wire (R50). -/
def bytes16 (v : Half) : List Byte := [lo8 v, hi8 v]

/-- Why a word on a port spells no instruction. -/
inductive Reject where
  /-- A record with a non-zero reserved field (R83); the record's KIND. -/
  | reservedField (kind : BitVec 4)
  /-- The next byte of the transmit buffer opens no unit the block sends (R79). -/
  | notAUnit (b : Byte)
  /-- The bytes end before the unit does, or a reply has not the length its state asks for (R78). -/
  | wrongLength
  deriving DecidableEq, Repr

/-- What the block expects of the device's next unit, selected by `STATE` (opcode_table.json, R78). -/
inductive Expect where
  /-- One ack byte: `WaitingBeginAck` and `WaitingEndAck` (R76). -/
  | ack
  /-- The response header of `n` bytes: `WaitingResponseLength` with `P_RSP_HDR_LEN = n` (R74). -/
  | header (n : Nat)
  /-- `n` data bytes and a checksum: `WaitingResponseData` with `DECL_LEN = n` (R75). -/
  | data (n : Nat)
  deriving DecidableEq, Repr

/-- How many bytes the expected unit has (R78). -/
def Expect.length : Expect → Nat
  | .ack => 1
  | .header n => n
  | .data n => n + 2

/-- What stands on a port: a record of `EVT` (R81), bytes on their way to the device, or bytes the device sent (R70). -/
inductive PortWord where
  | record (r : Record)
  | toDevice (u : List Byte)
  | fromDevice (u : List Byte)
  deriving DecidableEq, Repr

/-- The instruction a record spells (R81, R83): KIND in bits 3:0, then the fields of R81's table. -/
def decodeRecord (r : Record) : Except Reject Instr :=
  let kind : BitVec 4 := r.extractLsb' 0 4
  if kind = 0 then
    .ok (.cmdWriteObject (r.extractLsb' 4 16) (r.extractLsb' 20 8) (r.extractLsb' 28 8) (r.extractLsb' 36 32))
  else if kind = 1 then
    if r.extractLsb' 36 32 = 0#32 then
      .ok (.cmdReadObject (r.extractLsb' 4 16) (r.extractLsb' 20 8) (r.extractLsb' 28 8))
    else .error (.reservedField kind)
  else if kind = 2 then
    if r.extractLsb' 12 56 = 0#56 then .ok (.cancel (r.extractLsb' 4 8)) else .error (.reservedField kind)
  else if kind = 3 then
    .ok (.notify (r.extractLsb' 4 32) (r.extractLsb' 36 32))
  else if kind = 4 then
    if r.extractLsb' 36 32 = 0#32 then .ok (.timerFired (r.extractLsb' 4 32)) else .error (.reservedField kind)
  else
    .ok (.reservedKind kind (r.extractLsb' 4 64))

/-- The unit at the front of the bytes on their way to the device, and the bytes after it. The first byte tells the
units of R70 apart: the opcodes (R80), the response-ack, the length bytes 3 and 1 of the two bodies (R71, R72, R78). -/
def decodeUnit (c : Config) : List Byte → Except Reject (Instr × List Byte)
  | [] => .error .wrongLength
  | b :: rest =>
    if b = c.opWrite then .ok (.writeObject, rest)
    else if b = c.opRead then .ok (.readObject, rest)
    else if b = c.rspAck then .ok (.responseAck, rest)
    else if b = 0x03 then
      match rest with
      | i0 :: i1 :: sub :: node :: d0 :: d1 :: d2 :: d3 :: c0 :: c1 :: more =>
        .ok (.writeBody (join16 i0 i1) sub node (join32 d0 d1 d2 d3) (join16 c0 c1), more)
      | _ => .error .wrongLength
    else if b = 0x01 then
      match rest with
      | i0 :: i1 :: sub :: node :: c0 :: c1 :: more => .ok (.readBody (join16 i0 i1) sub node (join16 c0 c1), more)
      | _ => .error .wrongLength
    else .error (.notAUnit b)

/-- The unit that the bytes of one `UartRead` spell, by what `STATE` expects (R74 to R76, R78). -/
def decodeReply (c : Config) : Expect → List Byte → Except Reject Instr
  | .ack, [b] => if b = c.ack then .ok .ackAccept else .ok (.ackReject b)
  | .header n, h0 :: u =>
    match u.drop (n - 3) with
    | [c0, c1] => .ok (.rspHeader ⟨h0, u.take (n - 3)⟩ (join16 c0 c1))
    | _ => .error .wrongLength
  | .data n, u =>
    match u.drop n with
    | [c0, c1] => .ok (.rspData (u.take n) (join16 c0 c1))
    | _ => .error .wrongLength
  | _, _ => .error .wrongLength

/-- The decoder: total on every port word, and a word that spells no instruction is rejected by name. -/
def decode (c : Config) (e : Expect) : PortWord → Except Reject Instr
  | .record r => decodeRecord r
  | .fromDevice u => decodeReply c e u
  | .toDevice u =>
    match decodeUnit c u with
    | .ok (i, []) => .ok i
    | .ok (_, _ :: _) => .error .wrongLength
    | .error r => .error r

/-- The encoder: the bytes or the record of an instruction, field by field from R71, R72, R74 to R76 and R81. -/
def encode (c : Config) : Instr → PortWord
  | .writeObject => .toDevice [c.opWrite]
  | .readObject => .toDevice [c.opRead]
  | .writeBody index sub node data crc =>
    .toDevice [3, lo8 index, hi8 index, sub, node, byte32 data 0, byte32 data 1, byte32 data 2, byte32 data 3,
      lo8 crc, hi8 crc]
  | .readBody index sub node crc => .toDevice [1, lo8 index, hi8 index, sub, node, lo8 crc, hi8 crc]
  | .ackAccept => .fromDevice [c.ack]
  | .ackReject b => .fromDevice [b]
  | .rspHeader head crc => .fromDevice (head.h0 :: (head.fill ++ bytes16 crc))
  | .rspData data crc => .fromDevice (data ++ bytes16 crc)
  | .responseAck => .toDevice [c.rspAck]
  | .cmdWriteObject index sub node data => .record (data ++ node ++ sub ++ index ++ 0#4)
  | .cmdReadObject index sub node => .record (0#32 ++ node ++ sub ++ index ++ 1#4)
  | .cancel tag => .record (0#56 ++ tag ++ 2#4)
  | .notify rx tx => .record (tx ++ rx ++ 3#4)
  | .timerFired gen => .record (0#32 ++ gen ++ 4#4)
  | .reservedKind kind rest => .record (rest ++ kind)

/-- The bytes or bits of a port word as a list of bytes; a record has none. -/
def PortWord.bytes : PortWord → List Byte
  | .record _ => []
  | .toDevice u => u
  | .fromDevice u => u

/-- What the block must expect for an instruction's reply to be read as that instruction (R78). -/
def Instr.expect : Instr → Expect
  | .rspHeader head _ => .header (head.fill.length + 3)
  | .rspData data _ => .data data.length
  | .writeObject | .readObject | .writeBody .. | .readBody .. | .ackAccept | .ackReject .. | .responseAck
  | .cmdWriteObject .. | .cmdReadObject .. | .cancel .. | .notify .. | .timerFired .. | .reservedKind .. => .ack

/-- Byte `k` and up of a number laid out with byte 0 first. -/
def bytesOfNat (w : Nat) : Nat → List Byte
  | 0 => []
  | n + 1 => BitVec.ofNat 8 w :: bytesOfNat (w / 256) n

/-- The port, the expectation and the word that a table word of `nbits` bits stands for. The table numbers wire units
and records alike from bit 0; the length tells them apart, and for one byte the wire values of R80.
DESIGN CHOICE (entry 11): where `P_ACK = P_RSP_ACK`, that byte is read as the device's ACK_ACCEPT, not as RESPONSE_ACK. -/
def tableWord (c : Config) (nbits w : Nat) : Expect × PortWord :=
  let v := w % 2 ^ nbits
  let unit := c.respFormat.lenUnit.bytes
  if nbits = 8 ∧ (v = c.opWrite.toNat ∨ v = c.opRead.toNat) then (.ack, .toDevice (bytesOfNat v 1))
  else if nbits = 8 ∧ v = c.ack.toNat then (.ack, .fromDevice (bytesOfNat v 1))
  else if nbits = 8 ∧ v = c.rspAck.toNat then (.ack, .toDevice (bytesOfNat v 1))
  else if nbits = 8 * c.rspHdrLen.toNat then (.header c.rspHdrLen.toNat, .fromDevice (bytesOfNat v c.rspHdrLen.toNat))
  else if nbits = 88 ∧ v % 256 = 3 then (.ack, .toDevice (bytesOfNat v 11))
  else if nbits = 56 ∧ v % 256 = 1 then (.ack, .toDevice (bytesOfNat v 7))
  else if 8 * unit + 16 ≤ nbits ∧ nbits % (8 * unit) = 0 then
    (.data (nbits / 8 - 2), .fromDevice (bytesOfNat v (nbits / 8)))
  else (.ack, .record (BitVec.ofNat 68 v))

/-- What the decoder reads from a table word, under the parameter values the table is written with (entry 11). -/
def decodeTableWord (nbits w : Nat) : Option Instr :=
  match decode Config.reference (tableWord Config.reference nbits w).1 (tableWord Config.reference nbits w).2 with
  | .ok i => some i
  | .error _ => none

end Sys2Proof
end

