-- ==== Sys2Proof/Machine/Operands.lean ====
section
/-! DEFINITION. The operand forms of the frame engine: the checksum of 40_codec.md R100 to R102, the request encoders R103 and R104, the response-ack encoder R108 and the request decoder R109. Pure functions of their arguments and the parameters. -/

namespace Sys2Proof.Machine

/-- One bit of the CRC register update (R100): `LSB_FIRST` shifts right with 0x8408, `MSB_FIRST` left with 0x1021. -/
def crcBit : CrcOrder → Half → Half
  | .lsbFirst, c => if c.getLsbD 0 then (c >>> 1) ^^^ 0x8408 else c >>> 1
  | .msbFirst, c => if c.getLsbD 15 then (c <<< 1) ^^^ 0x1021 else c <<< 1

/-- `crcBit` repeated `n` times (R100 "repeat 8 times"). -/
def crcBits (o : CrcOrder) : Nat → Half → Half
  | 0, c => c
  | n + 1, c => crcBits o n (crcBit o c)

/-- The byte as it enters the CRC register: low end for `LSB_FIRST`, high end for `MSB_FIRST` (R100). -/
def crcLoad : CrcOrder → Byte → Half
  | .lsbFirst, b => b.setWidth 16
  | .msbFirst, b => b.setWidth 16 <<< 8

/-- `crc_step(c, b)`: one byte of CRC-CCITT (R100). -/
def crcStep (o : CrcOrder) (c : Half) (b : Byte) : Half := crcBits o 8 (c ^^^ crcLoad o b)

/-- The table form of `crc_step` (R101), with `T[i]` and `U[i]` the step of byte `i` from a zero register. -/
def crcStepTable : CrcOrder → Half → Byte → Half
  | .lsbFirst, c, b => (c >>> 8) ^^^ crcStep .lsbFirst 0 (lo8 c ^^^ b)
  | .msbFirst, c, b => (c <<< 8) ^^^ crcStep .msbFirst 0 (hi8 c ^^^ b)

/-- `crc16(s)`: the checksum of a byte sequence, seed 0 (R102). -/
def crc16 (o : CrcOrder) (s : List Byte) : Half := s.foldl (crcStep o) 0

/-- A request as the encoders return it: the opcode, sent alone, and the body (R103, 90_conflicts.md C1). -/
structure Request where
  opcode : Byte
  body : List Byte
  deriving DecidableEq, Repr

/-- Payload and little-endian checksum over `opcode ++ payload`, or no request if the payload is too long (R77, R103, R104). -/
def frame (cfg : Config) (opcode : Byte) (payload : List Byte) : Option Request :=
  if cfg.maxPayload < payload.length then none
  else some ⟨opcode, payload ++ bytes16 (crc16 cfg.crcOrder (opcode :: payload))⟩

/-- The 9 payload bytes of a write-object request (R71, R103). -/
def writePayload (index : Half) (subindex node : Byte) (data : Word) : List Byte :=
  [3, lo8 index, hi8 index, subindex, node, byte32 data 0, byte32 data 1, byte32 data 2, byte32 data 3]

/-- The 5 payload bytes of a read-object request (R72, R104). -/
def readPayload (index : Half) (subindex node : Byte) : List Byte :=
  [1, lo8 index, hi8 index, subindex, node]

/-- `ENC_WRITE`: the write-object request; no request is the spec's `EncodeFail` (R103). -/
def encWrite (cfg : Config) (index : Half) (subindex node : Byte) (data : Word) : Option Request :=
  frame cfg cfg.opWrite (writePayload index subindex node data)

/-- `ENC_READ`: the read-object request (R104). -/
def encRead (cfg : Config) (index : Half) (subindex node : Byte) : Option Request :=
  frame cfg cfg.opRead (readPayload index subindex node)

/-- `ENC_RSP_ACK`: the byte sent after a valid response, `P_RSP_ACK` (R108, D10). -/
def encRspAck (cfg : Config) : Byte := cfg.rspAck

/-- What `DEC_REQ` answers (R109). -/
inductive ReqResult where
  | write (index : Half) (subindex node : Byte) (data : Word)
  | read (index : Half) (subindex node : Byte)
  | checksumError
  | malformed
  deriving DecidableEq, Repr

/-- `DEC_REQ(opcode, body)`: the inverse of the encoders, "used only by the round-trip law" (R109). -/
def decReq (cfg : Config) (op : Byte) (s : List Byte) : ReqResult :=
  match s with
  | [l, i0, i1, sub, node, d0, d1, d2, d3, c0, c1] =>
    if op = cfg.opWrite ∧ l = 3 then
      if join16 c0 c1 = crc16 cfg.crcOrder [op, l, i0, i1, sub, node, d0, d1, d2, d3] then
        .write (join16 i0 i1) sub node (join32 d0 d1 d2 d3)
      else .checksumError
    else .malformed
  | [l, i0, i1, sub, node, c0, c1] =>
    if op = cfg.opRead ∧ l = 1 then
      if join16 c0 c1 = crc16 cfg.crcOrder [op, l, i0, i1, sub, node] then .read (join16 i0 i1) sub node else .checksumError
    else .malformed
  | _ => .malformed

end Sys2Proof.Machine
end

