-- ==== Sys2Proof/Machine/State.lean ====
section
/-! DEFINITION. The state of the frame engine: every register of 10_state.md R38, the configuration of 00_scope.md R8, the agents outside the block (R6, R36), the output history (R35), and the free choices as plain data. -/

namespace Sys2Proof.Machine

/-- The synchronous answer to a command (30_encoding.md R84). -/
inductive AdmResult where
  | admitted
  | serialBufferFull
  | driverBusy
  | unexpectedError
  deriving DecidableEq, Repr

/-- The terminal outcome of an admitted command (R85). -/
inductive TermOutcome where
  | success
  | protocolNack
  | checksumError
  | timeout
  | unexpectedError
  deriving DecidableEq, Repr

/-- The failure codes `ABORT` takes (41_state_machine.md R134). -/
inductive FailCode where
  | protocolNack
  | checksumError
  | timeout
  | unexpectedError
  deriving DecidableEq, Repr

/-- One output of a step: a call to the transport or the timer with the answer it got, an answer on `ADM`, or a record on
`CPL` (10_state.md R35, 00_scope.md R12). The answers on `ADM` stand in the history too (entry 13). -/
inductive OutEvent where
  | uartWrite (s : List Byte) (nw : Word)
  | uartRead (n : Nat) (cr : Word) (r : List Byte)
  | uartSetThreshold (rx tx : Half)
  | uartDiscardTx
  | timerArm (gen : Word) (s : TransactionState)
  | timerDisarm
  | admission (result : AdmResult) (tag : Byte)
  | complete (tag : Byte) (outcome : TermOutcome) (payload : List Byte)
  deriving DecidableEq, Repr

/-- A wait the timer is running: the generation and state it was armed for, and its bound `P_T_WAIT(s)`, which no rule of
the block reads (43_event_bridge.md R199). -/
structure Wait where
  gen : Word
  state : TransactionState
  bound : Nat
  deriving DecidableEq, Repr

/-- One turn of an agent or of the arbiter (R195, R202, 70_reset_and_hazards.md R240). Which turns come, and in what
order, is free: it is data of `State.turns` (entry 2). -/
inductive Turn where
  /-- A record is taken from the input port `EVT`: a command is consumed by the core, the others write a latch (R82). -/
  | record (r : Record)
  /-- The arbiter gives the core step to the notification latch (R192). -/
  | takeNotify
  /-- The arbiter gives the core step to the timer latch (R193). -/
  | takeTimer
  /-- The arbiter gives the core step to the cancel latch (R194). -/
  | takeCancel
  /-- Bytes from the device enter the transport's receive buffer (R190, R202). -/
  | arrive (u : List Byte)
  /-- The unit at the front of the transmit buffer leaves for the device (R190, R202). -/
  | unitOut
  /-- One byte at the front of the transmit buffer leaves for the device (R190, R202, entry 14). -/
  | byteOut
  /-- The platform resets the block (R240, R241). -/
  | reset
  deriving DecidableEq, Repr

/-- What stops the machine with a fault: nothing. The block has no traps (60_exceptions.md), and every failure it reports
is a next state (R134, R215); "The block itself never stops" (93_implementation_defined.md I17). -/
inductive Fault where
  deriving DecidableEq, Repr

/-- Why a step has no meaning. -/
inductive Refusal where
  /-- Raised by exec for an instruction that has no meaning yet; safe. No arm answers it. -/
  | notModelled (mnemonic : String)
  /-- Raised by the meaning of RESERVED_KIND: a record of KIND 5 to 15 spells no input (30_encoding.md R83); safe. -/
  | reservedKind
  /-- Raised by the fetch for a record with a non-zero reserved field, which spells no input (R83); safe. -/
  | reservedField
  /-- Raised by the meaning of CMD_READ_OBJECT when `P_READ_PATH = refused` (42_command_api.md R171); safe. -/
  | readPathRefused
  deriving DecidableEq, Repr

/-- The whole state: the block's registers under the spec's names, then what stands outside the block. -/
structure State where
  /-- The parameters, fixed before reset (R8, R60). -/
  cfg : Config
  /-- `STATE` (R23). -/
  state : TransactionState
  /-- `OPCODE` (R25). -/
  opcode : Byte
  /-- `OUTBUF` and `OUTLEN` (R26). -/
  outbuf : List Byte
  outlen : Nat
  /-- `INBUF` and `INLEN` (R27). -/
  inbuf : List Byte
  inlen : Nat
  /-- `RSP_LEN_M1` and `DECL_LEN` (R28). -/
  rspLenM1 : Byte
  declLen : Nat
  /-- `TAG` and `NEXT_TAG` (R29). -/
  tag : Byte
  nextTag : Byte
  /-- `RX_THR` and `TX_THR` (R30). -/
  rxThr : Half
  txThr : Half
  /-- `TMR_ARMED` and `TMR_GEN` (R31). -/
  tmrArmed : Bool
  tmrGen : Word
  /-- The notification latch `NTF_PEND`, `NTF_RX`, `NTF_TX` (R32). -/
  ntfPend : Bool
  ntfRx : Word
  ntfTx : Word
  /-- The timer latch `TMF_PEND`, `TMF_GEN` (R33). -/
  tmfPend : Bool
  tmfGen : Word
  /-- The cancel latch `CAN_PEND`, `CAN_TAG` (R34). -/
  canPend : Bool
  canTag : Byte
  /-- The transport's receive and transmit buffers, oldest byte first (R36, R190, R201). -/
  trRx : List Byte
  trTx : List Byte
  /-- The transport's true transmit-buffer capacity (R219, R254), which should be `P_TX_CAP` (R242). No step reads it: what
  a transport that keeps to it does is `State.Capacity` (entry 23). -/
  trCap : Nat
  /-- The thresholds programmed into the transport (R197). -/
  trRxThr : Half
  trTxThr : Half
  /-- The bytes that have left for the device, oldest first (R70, R190). -/
  delivered : List Byte
  /-- The timer's running wait (R199). -/
  wait : Option Wait
  /-- The outputs so far, oldest first (R35). -/
  history : List OutEvent
  /-- The model's own: the turns still to come (R195, entry 2). -/
  turns : List Turn
  /-- The model's own: the counts the transport will answer to the calls still to come (R190, entry 3). -/
  answers : List Word
  /-- The model's own: how many free values have been drawn (entry 3). -/
  draws : Nat
  deriving DecidableEq, Repr

/-- The machine right after reset under the parameters `c`: every register at its value of R38, and the one call
`UartSetThreshold(0, 0)` of R240. The agents' buffers are empty, no wait runs (entry 19), and
the transport has the capacity `P_TX_CAP` (R219, R242). -/
def State.resetWith (c : Config) : State where
  cfg := c
  state := .ready
  opcode := 0x00
  outbuf := List.replicate (c.maxPayload + 2) 0x00
  outlen := 0
  inbuf := List.replicate (c.maxPayload + 2) 0x00
  inlen := 0
  rspLenM1 := 0
  declLen := 0
  tag := 0
  nextTag := 0
  rxThr := 0
  txThr := 0
  tmrArmed := false
  tmrGen := 0
  ntfPend := false
  ntfRx := 0
  ntfTx := 0
  tmfPend := false
  tmfGen := 0
  canPend := false
  canTag := 0
  trRx := []
  trTx := []
  trCap := c.txCap.toNat
  trRxThr := 0
  trTxThr := 0
  delivered := []
  wait := none
  history := [.uartSetThreshold 0 0]
  turns := []
  answers := []
  draws := 0

/-- The machine right after reset (R38, R240), under the parameter values of R8 (entry 6). -/
def State.reset : State := State.resetWith Config.reference

end Sys2Proof.Machine
end

