-- ==== Sys2Proof/Machine/Flags.lean ====
section
/-! DEFINITION. The verdicts of a step. The block has no flags (10_state.md R22): the ack verdict and the checksum verdicts of 40_codec.md R105 to R107 and the threshold test of 43_event_bridge.md R192 are values of one step, kept nowhere. -/

namespace Sys2Proof.Machine

/-- The ack verdict (R105). -/
inductive Ack where
  | accepted
  | rejected
  deriving DecidableEq, Repr

/-- `DEC_ACK(b)`: exact equality with `P_ACK`, 0x4F (R105). -/
def decAck (cfg : Config) (b : Byte) : Ack := if b = cfg.ack then .accepted else .rejected

/-- `DECL_LEN` of a length byte: `2 * (L + 1)`, the 2 being the length unit of `P_RESP_FORMAT` (R73, R74). -/
def declared (cfg : Config) (h0 : Byte) : Nat := cfg.respFormat.lenUnit.bytes * (h0.toNat + 1)

/-- `DEC_RSP_HDR(r)`: the declared data length of a header with length byte `h0` and checksum field `crc`;
none is the spec's `ChecksumError`. The checksum is tested before the length (R106). -/
def decRspHdr (cfg : Config) (h0 : Byte) (crc : Half) : Option Nat :=
  if crc ≠ crc16 cfg.crcOrder [h0] then none
  else if cfg.maxPayload < 1 + declared cfg h0 then none
  else some (declared cfg h0)

/-- The bytes the checksum after the response data covers (R75), by the coverage of `P_RESP_FORMAT` (90_conflicts.md C6). -/
def dataCovered (cfg : Config) (h0 : Byte) (data : List Byte) : List Byte :=
  match cfg.respFormat.coverage with
  | .lengthAndData => h0 :: data
  | .fullFrame => h0 :: (bytes16 (crc16 cfg.crcOrder [h0]) ++ data)

/-- `DEC_RSP_PAYLOAD(h0, r, d)` on data bytes and their checksum field: the data, or none for `ChecksumError` (R107). -/
def decRspPayload (cfg : Config) (h0 : Byte) (data : List Byte) (crc : Half) : Option (List Byte) :=
  if crc ≠ crc16 cfg.crcOrder (dataCovered cfg h0 data) then none else some data

/-- Whether a count meets an enabled threshold: "`THR > 0` and `n >= THR`", a signed comparison (R192). -/
def meets (n : Word) (thr : Half) : Bool := 0 < thr.toNat && (thr.toNat : Int) ≤ n.toInt

/-- The 2-bit code of an admission result (30_encoding.md R84). -/
def AdmResult.code : AdmResult → BitVec 2
  | .admitted => 0
  | .serialBufferFull => 1
  | .driverBusy => 2
  | .unexpectedError => 3

/-- The 3-bit code of a terminal outcome (R85). -/
def TermOutcome.code : TermOutcome → BitVec 3
  | .success => 0
  | .protocolNack => 1
  | .checksumError => 2
  | .timeout => 3
  | .unexpectedError => 4

/-- The outcome a failure code is reported as (60_exceptions.md R210). -/
def FailCode.outcome : FailCode → TermOutcome
  | .protocolNack => .protocolNack
  | .checksumError => .checksumError
  | .timeout => .timeout
  | .unexpectedError => .unexpectedError

end Sys2Proof.Machine
end

