-- ==== Sys2Proof/Machine/Ops.lean ====
section
/-! DEFINITION. The named operations of the machine: the primitives of 00_scope.md R12 (transport and timer calls, outputs), the procedures `THR`, `ENTER`, `FINISH`, `ABORT` of 41_state_machine.md R131 to R134 (`ABORT` is the failure entry of 60_exceptions.md R215), the latches of 43_event_bridge.md, and reset (70_reset_and_hazards.md R240). -/

namespace Sys2Proof.Machine

/-- Records one output of the step (10_state.md R35). -/
def State.emit (e : OutEvent) (s : State) : State := { s with history := s.history ++ [e] }

/-- Writes `bytes` over the start of a buffer register; the buffer keeps its size (R26, R27, entry 17). -/
def overwrite (buf bytes : List Byte) : List Byte := (bytes ++ buf.drop bytes.length).take buf.length

/-- A cleared buffer register: "every byte 0x00" (R26, R27). -/
def cleared (cfg : Config) : List Byte := List.replicate (cfg.maxPayload + 2) 0x00

/-! ### The transport's answers -/

/-- The transport's next answer count: the next of `answers`, or a free value (R190, I7, entry 3). -/
def State.answer (s : State) : Word × State :=
  match s.answers with
  | a :: rest => (a, { s with answers := rest })
  | [] => (Config.freeCount s.draws, { s with draws := s.draws + 1 })

/-- The answer to a write of `n` bytes keeps the transport contract: `0 <= nw <= n` (R190). -/
def writeInContract (nw : Word) (n : Nat) : Bool := 0 ≤ nw.toInt && nw.toInt ≤ n

/-- The answer to a read of `n` bytes keeps the contract: `0 <= cr <= n`, and the bytes are there (R190). -/
def readInContract (cr : Word) (n stored : Nat) : Bool := 0 ≤ cr.toInt && cr.toInt ≤ n && cr.toInt ≤ stored

/-- What an answer outside the contract leaves: "The transport agent's state after an anomaly is a free draw" (I8, R190,
entry 4). Both buffers and both programmed thresholds are free, and any bytes may have been sent. -/
def State.anomaly (s : State) : State :=
  { s with
    trRx := Config.freeFifo s.draws
    trTx := Config.freeFifo (s.draws + 1)
    trRxThr := Config.freeThreshold s.draws
    trTxThr := Config.freeThreshold (s.draws + 1)
    delivered := s.delivered ++ Config.freeFifo (s.draws + 2)
    draws := s.draws + 3 }

/-- `nw <- UartWrite(bytes)`: the first `|bytes| - nw` bytes join the transmit buffer; after an answer outside the
contract the transport's state is free (R12, R190, I8). -/
def State.uartWrite (bytes : List Byte) (s : State) : Word × State :=
  let a := s.answer
  let nw := a.1
  let t := a.2.emit (.uartWrite bytes nw)
  (nw, if writeInContract nw bytes.length then
      { t with trTx := t.trTx ++ bytes.take (bytes.length - nw.toInt.toNat) }
    else t.anomaly)

/-- The bytes a read of `n` bytes answered with count `cr` returns: the oldest of the receive buffer, or, outside the
contract, `max(0, min(cr, n))` free bytes (R12, R190, entry 4). -/
def State.readBytes (n : Nat) (cr : Word) (s : State) : List Byte :=
  if readInContract cr n s.trRx.length then s.trRx.take cr.toInt.toNat
  else (List.range (min cr.toInt (n : Int)).toNat).map (Config.freeByte s.draws)

/-- `(cr, r) <- UartRead(n)`: the bytes read leave the receive buffer (20_memory.md R54); after an answer outside the
contract the transport's state is free (R12, R190, I8). -/
def State.uartRead (n : Nat) (s : State) : Word × List Byte × State :=
  let a := s.answer
  let cr := a.1
  let r := a.2.readBytes n cr
  let t := a.2.emit (.uartRead n cr r)
  (cr, r, if readInContract cr n a.2.trRx.length then { t with trRx := t.trRx.drop cr.toInt.toNat }
    else t.anomaly)

/-- `UartDiscardTx()`: which unsent bytes are dropped is free (R200, I11, entry 5). -/
def State.uartDiscardTx (s : State) : State :=
  let t := s.emit .uartDiscardTx
  { t with
    trTx := (t.trTx.zipIdx.filter fun p => Config.freeKeep t.draws p.2).map Prod.fst
    draws := t.draws + 1 }

/-- `UartSetThreshold(rx, tx)` (R197); the registers mirror what was programmed (R30). -/
def State.setThreshold (rx tx : Half) (s : State) : State :=
  { s with rxThr := rx, txThr := tx, trRxThr := rx, trTxThr := tx }.emit (.uartSetThreshold rx tx)

/-! ### The timer -/

/-- `TimerDisarm()` and `TMR_ARMED <- 0`, if the timer is armed (R132, R199). -/
def State.disarm (s : State) : State :=
  if s.tmrArmed then { s with tmrArmed := false, wait := none }.emit .timerDisarm else s

/-- A new generation, `TMR_ARMED <- 1` and `TimerArm(TMR_GEN, st)`, which replaces any wait already running (R132, R199). -/
def State.arm (st : TransactionState) (s : State) : State :=
  { s with tmrGen := s.tmrGen + 1, tmrArmed := true, wait := some ⟨s.tmrGen + 1, st, s.cfg.tWait.of st⟩ }.emit
    (.timerArm (s.tmrGen + 1) st)

/-! ### The procedures of the state machine -/

/-- `THR(st)`: the receive and transmit thresholds of a state (R131). -/
def State.thr (st : TransactionState) (s : State) : Half × Half :=
  match st with
  | .ready => (0, 0)
  | .sendingOpcode | .sendingData | .sendingResponseAck => (0, s.cfg.txCap)
  | .waitingBeginAck | .waitingEndAck => (1, 0)
  | .waitingResponseLength => (s.cfg.rspHdrLen, 0)
  | .waitingResponseData => (BitVec.ofNat 16 (s.declLen + 2), 0)

/-- `ENTER(st)`, the only procedure that writes `STATE` (R132; R21). -/
def State.enter (st : TransactionState) (s : State) : State :=
  let t := { s.disarm with state := st }
  let u := t.setThreshold (t.thr st).1 (t.thr st).2
  if st = .ready then u else u.arm st

/-- The transaction registers cleared, as `FINISH` does it (R133). -/
def State.clearTransaction (s : State) : State :=
  { s with
    opcode := 0x00
    outbuf := cleared s.cfg
    outlen := 0
    inbuf := cleared s.cfg
    inlen := 0
    rspLenM1 := 0
    declLen := 0 }

/-- `FINISH(outcome, payload)`: ends the transaction in flight and delivers its one completion record (R133, R174). -/
def State.finish (outcome : TermOutcome) (payload : List Byte) (s : State) : State :=
  (s.clearTransaction.enter .ready).emit (.complete s.tag outcome payload)

/-- `ABORT(code)`, which `raise Fail(code)` runs: the failure entry. It saves nothing, and there is no return from it
(R134, R215, R216). -/
def State.abort (code : FailCode) (s : State) : State := s.finish code.outcome []

/-- The registers of a new transaction: `OPCODE`, `OUTBUF`, `OUTLEN`, `TAG`, `NEXT_TAG` (42_command_api.md R170). -/
def State.loadRequest (q : Request) (s : State) : State :=
  { s with
    opcode := q.opcode
    outbuf := overwrite s.outbuf q.body
    outlen := q.body.length
    tag := s.nextTag
    nextTag := s.nextTag + 1 }

/-- Admission of an encoded command: busy, then encoding, then the opcode write (R170, R171, R214). -/
def State.admission (e : Option Request) (s : State) : State :=
  if s.state ≠ .ready then s.emit (.admission .driverBusy 0)
  else
    match e with
    | none => s.emit (.admission .unexpectedError 0)
    | some q =>
      let w := s.uartWrite [q.opcode]
      if w.1 = 1 then w.2.emit (.admission .serialBufferFull 0)
      else if w.1 ≠ 0 then w.2.emit (.admission .unexpectedError 0)
      else ((w.2.loadRequest q).enter .sendingOpcode).emit (.admission .admitted w.2.nextTag)

/-- A write inside a transaction: taken whole, the next state is entered; else `UnexpectedError` (R136, R140, D16). -/
def State.submit (bytes : List Byte) (st : TransactionState) (s : State) : State :=
  let w := s.uartWrite bytes
  if w.1 ≠ 0 then w.2.abort .unexpectedError else w.2.enter st

/-! ### Latches, units on the link, reset -/

/-- `NOTIFY(rx, tx)`: writes the notification latch (R191). -/
def State.latchNotify (rx tx : Word) (s : State) : State := { s with ntfRx := rx, ntfTx := tx, ntfPend := true }

/-- `TIMER_FIRED(g)`: writes the timer latch (R193). -/
def State.latchTimer (g : Word) (s : State) : State := { s with tmfGen := g, tmfPend := true }

/-- `CANCEL(tag)`: writes the cancel latch (R194). -/
def State.latchCancel (tag : Byte) (s : State) : State := { s with canTag := tag, canPend := true }

/-- Bytes have left for the device (R70, R190). -/
def State.deliver (u : List Byte) (s : State) : State := { s with delivered := s.delivered ++ u }

/-- Bytes from the device have entered the receive buffer (R190, R201). -/
def State.receive (u : List Byte) (s : State) : State := { s with trRx := s.trRx ++ u }

/-- Reset (R240, R241): every register at its R38 value and one call `UartSetThreshold(0, 0)`; no timer call and no
record. What stands outside the block is untouched (entry 12). -/
def State.doReset (s : State) : State :=
  { State.resetWith s.cfg with
    trRx := s.trRx
    trTx := s.trTx
    trCap := s.trCap
    delivered := s.delivered
    wait := s.wait
    history := s.history ++ [.uartSetThreshold 0 0]
    turns := s.turns
    answers := s.answers
    draws := s.draws }

/-! ### Records on the output ports -/

/-- The record on `ADM` (30_encoding.md R84). -/
structure AdmRecord where
  result : BitVec 2
  tag : Byte
  deriving DecidableEq, Repr

/-- The record on `CPL` (R85). -/
structure CplRecord where
  tag : Byte
  outcome : BitVec 3
  len : Nat
  data : List Byte
  deriving DecidableEq, Repr

/-- The admission record an output puts on `ADM`, if it is one (R84). -/
def OutEvent.admRecord : OutEvent → Option AdmRecord
  | .admission r tag => some ⟨r.code, tag⟩
  | _ => none

/-- The completion record an output puts on `CPL`, if it is one: `LEN = |payload|` (R85, R174). -/
def OutEvent.cplRecord : OutEvent → Option CplRecord
  | .complete tag o payload => some ⟨tag, o.code, payload.length, payload⟩
  | _ => none

end Sys2Proof.Machine
end

