-- ==== Sys2Proof/Machine/Bridge.lean ====
section
/-! DEFINITION. The core steps the arbiter gives to a latch (43_event_bridge.md R192 to R194), the automaton's events and the transitions they trigger (41_state_machine.md R130, R135 to R144), and what a step fetches. -/

namespace Sys2Proof.Machine

/-- What a step's fetch ends in. -/
inductive Fetched where
  /-- The step is over: no instruction runs in it. -/
  | done (s : State)
  /-- The instruction to run, and the state it runs in. -/
  | run (i : Instr) (s : State)
  /-- What was fetched spells no instruction (R83). -/
  | reject (r : Refusal)
  deriving DecidableEq, Repr

/-- The automaton's internal events (R82, R192). -/
inductive Event where
  | rxAvailable (n : Word)
  | txFree (n : Word)
  deriving DecidableEq, Repr

/-- The unit each receive state reads (R136, R138 to R140); the other states read nothing (R142). -/
def State.expects (s : State) : Option Expect :=
  match s.state with
  | .waitingBeginAck | .waitingEndAck => some .ack
  | .waitingResponseLength => some (.header s.cfg.rspHdrLen.toNat)
  | .waitingResponseData => some (.data s.declLen)
  | .ready | .sendingOpcode | .sendingData | .sendingResponseAck => none

/-- `UartRead` of the expected unit: a count other than the one asked is `UnexpectedError`; otherwise the unit read is
the instruction that runs (R136, R138 to R140, D16). -/
def State.readUnit (e : Expect) (s : State) : Fetched :=
  let r := s.uartRead e.length
  if r.1.toInt ≠ (e.length : Int) then .done (r.2.2.abort .unexpectedError)
  else
    match decodeReply s.cfg e r.2.1 with
    | .ok i => .run i r.2.2
    | .error _ => .done (r.2.2.abort .unexpectedError)

/-- `RxAvailable(n)`: acts only if it meets `RX_THR` (R142, R144). -/
def State.onRxAvailable (n : Word) (s : State) : Fetched :=
  if meets n s.rxThr then
    match s.expects with
    | some e => s.readUnit e
    | none => .done s
  else .done s

/-- `TxFree(n)`: acts only if it meets `TX_THR` (R142, R144); the three Sending states move on (R135, R137, R141). -/
def State.onTxFree (n : Word) (s : State) : State :=
  if meets n s.txThr then
    match s.state with
    | .sendingOpcode => s.enter .waitingBeginAck
    | .sendingData => s.enter .waitingEndAck
    | .sendingResponseAck => s.finish .success (s.inbuf.take s.inlen)
    | .ready | .waitingBeginAck | .waitingEndAck | .waitingResponseLength | .waitingResponseData => s
  else s

/-- The automaton on an event value, total on every (state, event) pair (R130, R144). -/
def State.onEvent (e : Event) (s : State) : Fetched :=
  match e with
  | .rxAvailable n => s.onRxAvailable n
  | .txFree n => .done (s.onTxFree n)

/-- The event a latched notification makes under the current thresholds, if any (R192). -/
def State.notifyEvent (s : State) : Option Event :=
  if meets s.ntfRx s.rxThr then some (.rxAvailable s.ntfRx)
  else if meets s.ntfTx s.txThr then some (.txFree s.ntfTx)
  else none

/-- `CONSUME_NOTIFY()` (R192). With nothing pending the turn passes (R195, entry 9). -/
def State.consumeNotify (s : State) : Fetched :=
  if s.ntfPend then
    let t := { s with ntfPend := false }
    match t.notifyEvent with
    | some e => t.onEvent e
    | none => .done t
  else .done s

/-- The timer latch is consumed: a fire with the current generation while the timer is armed is `Timeout`, any other is a
no-op (R143, R193). With nothing pending the turn passes (entry 9). -/
def State.consumeTimer (s : State) : State :=
  if s.tmfPend then
    let t := { s with tmfPend := false }
    if t.tmrArmed ∧ t.tmfGen = t.tmrGen then t.abort .timeout else t
  else s

/-- The cancel latch is consumed: the tag in flight is aborted with `Timeout` after `UartDiscardTx()`, any other cancel
is a no-op (R172, R194). With nothing pending the turn passes (entry 9). -/
def State.consumeCancel (s : State) : State :=
  if s.canPend then
    let t := { s with canPend := false }
    if t.state ≠ .ready ∧ t.canTag = t.tag then t.uartDiscardTx.abort .timeout else t
  else s

/-- The next unit leaves the transmit buffer. Bytes that open no whole unit (a truncated body, R250) leave one by one,
and no instruction runs (entry 14). -/
def State.sendUnit (s : State) : Fetched :=
  match s.trTx with
  | [] => .done s
  | b :: rest =>
    match decodeUnit s.cfg (b :: rest) with
    | .ok (i, more) => .run i { s with trTx := more }
    | .error _ => .done ({ s with trTx := rest }.deliver [b])

/-- One byte leaves the transmit buffer, whatever unit it belongs to (R190, entry 14). -/
def State.sendByte (s : State) : State :=
  match s.trTx with
  | [] => s
  | b :: rest => { s with trTx := rest }.deliver [b]

/-- A record taken from `EVT` (R82, R83). -/
def State.takeRecord (r : Record) (s : State) : Fetched :=
  match decodeRecord r with
  | .ok i => .run i s
  | .error _ => .reject .reservedField

/-- One turn (R195, R202). -/
def State.takeTurn (t : Turn) (s : State) : Fetched :=
  match t with
  | .record r => s.takeRecord r
  | .takeNotify => s.consumeNotify
  | .takeTimer => .done s.consumeTimer
  | .takeCancel => .done s.consumeCancel
  | .arrive u => .done (s.receive u)
  | .unitOut => s.sendUnit
  | .byteOut => .done s.sendByte
  | .reset => .done s.doReset

/-- The fetch: the next turn, or none, in which case the block waits with all its state (60_exceptions.md R222, entry 2). -/
def State.fetch (s : State) : Fetched :=
  match s.turns with
  | [] => .done s
  | t :: rest => { s with turns := rest }.takeTurn t

end Sys2Proof.Machine
end

