-- ==== Sys2Proof/Machine/Command.lean ====
section
/-! DEFINITION. The records of the input port `EVT` (30_encoding.md R81, R82): the two commands, consumed by the core in the step that takes them (42_command_api.md R170, R171); `CANCEL`, `NOTIFY` and `TIMER_FIRED`, which write their latch and are consumed by a later step (43_event_bridge.md R191, R193, R194); and the reserved kinds (R83). -/

namespace Sys2Proof.Machine

/-- CMD_WRITE_OBJECT (R170). -/
def execCmdWriteObject (index : Half) (subindex node : Byte) (data : Word) (s : State) :
    Host.Outcome State Fault Refusal :=
  .next (s.admission (encWrite s.cfg index subindex node data))

/-- CMD_READ_OBJECT (R171). With `P_READ_PATH = refused` "a model refuses every `CMD_READ_OBJECT` record" (R171). -/
def execCmdReadObject (index : Half) (subindex node : Byte) (s : State) : Host.Outcome State Fault Refusal :=
  match s.cfg.readPath with
  | .refused => .refused .readPathRefused
  | .enabled => .next (s.admission (encRead s.cfg index subindex node))

/-- CANCEL: writes the cancel latch (R194). -/
def execCancel (tag : Byte) (s : State) : Host.Outcome State Fault Refusal :=
  .next (s.latchCancel tag)

/-- NOTIFY: writes the notification latch (R191). -/
def execNotify (rx tx : Word) (s : State) : Host.Outcome State Fault Refusal :=
  .next (s.latchNotify rx tx)

/-- TIMER_FIRED: writes the timer latch (R193). Any generation may come (R199, entry 21). -/
def execTimerFired (gen : Word) (s : State) : Host.Outcome State Fault Refusal :=
  .next (s.latchTimer gen)

/-- RESERVED_KIND: "A model refuses it: it has no step and marks the run refused" (R83). -/
def execReservedKind (_kind : BitVec 4) (_rest : BitVec 64) (_s : State) : Host.Outcome State Fault Refusal :=
  .refused .reservedKind

end Sys2Proof.Machine
end

