-- ==== Sys2Proof/Machine/Inbound.lean ====
section
/-! DEFINITION. The wire units the device sends (30_encoding.md R70 units 2, 4, 5 and 6): each runs when the block has read it from the transport's receive buffer, and is what the transition rules 41_state_machine.md R136 and R138 to R140 do after their `UartRead`. In a state that reads no such unit it changes nothing (R142, entry 10). -/

namespace Sys2Proof.Machine

/-- What an ack byte does in the two ack states (R136, R138). `WaitingBeginAck`: the whole body is submitted.
`WaitingEndAck`: `Success` for a write, on to the response for a read. -/
def State.onAck (verdict : Ack) (s : State) : State :=
  match s.state, verdict with
  | .waitingBeginAck, .rejected => s.abort .protocolNack
  | .waitingBeginAck, .accepted => s.submit (s.outbuf.take s.outlen) .sendingData
  | .waitingEndAck, .rejected => s.abort .protocolNack
  | .waitingEndAck, .accepted =>
    if s.opcode = s.cfg.opWrite then s.finish .success [] else s.enter .waitingResponseLength
  | _, _ => s

/-- ACK_ACCEPT: the byte `P_ACK` has been read as an ack (R136, R138). -/
def execAckAccept (s : State) : Host.Outcome State Fault Refusal :=
  .next (s.onAck (decAck s.cfg s.cfg.ack))

/-- ACK_REJECT: another byte has been read as an ack (R136, R138); the verdict is `DEC_ACK`'s (R105). -/
def execAckReject (b : Byte) (s : State) : Host.Outcome State Fault Refusal :=
  .next (s.onAck (decAck s.cfg b))

/-- RSP_HEADER: the header has been read in `WaitingResponseLength` (R139). No rule reads the bytes between length byte and
checksum that a longer header has (entry 7). -/
def execRspHeader (head : RspHead) (crc : Half) (s : State) : Host.Outcome State Fault Refusal :=
  .next <|
    if s.state = .waitingResponseLength then
      match decRspHdr s.cfg head.h0 crc with
      | none => s.abort .checksumError
      | some d => { s with rspLenM1 := head.h0, declLen := d }.enter .waitingResponseData
    else s

/-- `INBUF[0 .. DECL_LEN-1] <- data; INLEN <- DECL_LEN` (R140). -/
def State.loadResponse (data : List Byte) (s : State) : State :=
  { s with inbuf := overwrite s.inbuf data, inlen := s.declLen }

/-- RSP_DATA: the data unit has been read in `WaitingResponseData` (R140). A unit that is not `DECL_LEN + 2` bytes is the
read that did not return the count asked (R140, entry 10). -/
def execRspData (data : List Byte) (crc : Half) (s : State) : Host.Outcome State Fault Refusal :=
  .next <|
    if s.state = .waitingResponseData then
      if data.length ≠ s.declLen then s.abort .unexpectedError
      else
        match decRspPayload s.cfg s.rspLenM1 data crc with
        | none => s.abort .checksumError
        | some d => (s.loadResponse d).submit [encRspAck s.cfg] .sendingResponseAck
    else s

end Sys2Proof.Machine
end

