-- ==== Sys2Proof/Machine/Outbound.lean ====
section
/-! DEFINITION. The wire units the block sends (30_encoding.md R70 units 1, 3 and 7): each runs when the device takes it from the transport's transmit buffer (entry 1). What the device does with it is outside the block (00_scope.md R5). -/

namespace Sys2Proof.Machine

/-- WRITE_OBJECT: the opcode byte `P_OP_WRITE` has left for the device (R70 unit 1, R80). -/
def execWriteObject (s : State) : Host.Outcome State Fault Refusal :=
  .next (s.deliver [s.cfg.opWrite])

/-- READ_OBJECT: the opcode byte `P_OP_READ` has left for the device (R70 unit 1, R80). -/
def execReadObject (s : State) : Host.Outcome State Fault Refusal :=
  .next (s.deliver [s.cfg.opRead])

/-- WRITE_BODY: the 11 bytes of the body have left for the device, byte 0 first (R70 unit 3, R71, R51). -/
def execWriteBody (index : Half) (subindex node : Byte) (data : Word) (crc : Half) (s : State) :
    Host.Outcome State Fault Refusal :=
  .next (s.deliver (writePayload index subindex node data ++ bytes16 crc))

/-- READ_BODY: the 7 bytes of the body have left for the device, byte 0 first (R70 unit 3, R72, R51). -/
def execReadBody (index : Half) (subindex node : Byte) (crc : Half) (s : State) :
    Host.Outcome State Fault Refusal :=
  .next (s.deliver (readPayload index subindex node ++ bytes16 crc))

/-- RESPONSE_ACK: the response-ack byte has left for the device (R70 unit 7, R76). -/
def execResponseAck (s : State) : Host.Outcome State Fault Refusal :=
  .next (s.deliver [encRspAck s.cfg])

end Sys2Proof.Machine
end

