-- ==== Sys2Proof/Machine/Dispatch.lean ====
section
/-! DEFINITION. One arm per row of spec/opcode_table.json: the instruction's meaning. -/

namespace Sys2Proof.Machine

def exec (i : Instr) (s : State) : Host.Outcome State Fault Refusal :=
  match i with
  | .writeObject => Sys2Proof.Machine.execWriteObject s
  | .readObject => Sys2Proof.Machine.execReadObject s
  | .writeBody index subindex node data crc => Sys2Proof.Machine.execWriteBody index subindex node data crc s
  | .readBody index subindex node crc => Sys2Proof.Machine.execReadBody index subindex node crc s
  | .ackAccept => Sys2Proof.Machine.execAckAccept s
  | .ackReject b => Sys2Proof.Machine.execAckReject b s
  | .rspHeader head crc => Sys2Proof.Machine.execRspHeader head crc s
  | .rspData data crc => Sys2Proof.Machine.execRspData data crc s
  | .responseAck => Sys2Proof.Machine.execResponseAck s
  | .cmdWriteObject index subindex node data => Sys2Proof.Machine.execCmdWriteObject index subindex node data s
  | .cmdReadObject index subindex node => Sys2Proof.Machine.execCmdReadObject index subindex node s
  | .cancel tag => Sys2Proof.Machine.execCancel tag s
  | .notify rx tx => Sys2Proof.Machine.execNotify rx tx s
  | .timerFired gen => Sys2Proof.Machine.execTimerFired gen s
  | .reservedKind kind rest => Sys2Proof.Machine.execReservedKind kind rest s

end Sys2Proof.Machine
end

