-- ==== Sys2Proof/Machine/Step.lean ====
section
/-! DEFINITION. One step of the machine: fetch the next turn, and run the instruction it brings (43_event_bridge.md R202). -/

namespace Sys2Proof.Machine

/-- The step (R202): what the fetch ends in, or the meaning of the instruction it brings. -/
def step (s : State) : Host.Outcome State Fault Refusal :=
  match s.fetch with
  | .done t => .next t
  | .run i t => exec i t
  | .reject r => .refused r

/-- A receive state with its threshold programmed, a unit at the front of the receive buffer and a notification of it
latched, so that the next step reads that unit; the transport answers with the count asked (entry 11). -/
def State.withReply (s : State) (e : Expect) (u : List Byte) : State :=
  { s with
    state := match e with
      | .ack => if s.state = .waitingEndAck then .waitingEndAck else .waitingBeginAck
      | .header _ => .waitingResponseLength
      | .data _ => .waitingResponseData
    declLen := match e with
      | .data n => n
      | _ => s.declLen
    rxThr := BitVec.ofNat 16 e.length
    ntfPend := true
    ntfRx := BitVec.ofNat 32 e.length
    trRx := u ++ s.trRx
    turns := .takeNotify :: s.turns
    answers := BitVec.ofNat 32 e.length :: s.answers }

/-- `s` with a table word placed where the next step fetches it: a record on `EVT`, a unit at the front of the transmit
buffer about to leave, or a reply the block is about to read (entry 11). -/
def State.withFetchWord (s : State) (nbits w : Nat) : State :=
  match tableWord s.cfg nbits w with
  | (_, .record r) => { s with turns := .record r :: s.turns }
  | (_, .toDevice u) => { s with trTx := u ++ s.trTx, turns := .unitOut :: s.turns }
  | (e, .fromDevice u) => s.withReply e u

end Sys2Proof.Machine
end

