-- ==== Sys2Proof/Safety.lean ====
section
/-! DEFINITION. What counts as a safe run of the frame engine: the invariants of 10_state.md R39 and what holds beside them, the ledger of admissions and completions (41_state_machine.md R145), the transitions of R144's matrix, and the transport's contract. -/

namespace Sys2Proof.Machine

/-- R39, first point: what `Ready` implies. -/
abbrev State.ReadyIdle (s : State) : Prop :=
  s.state = .ready →
    s.opcode = 0 ∧ s.outlen = 0 ∧ s.inlen = 0 ∧ s.rspLenM1 = 0 ∧ s.declLen = 0 ∧ s.rxThr = 0 ∧ s.txThr = 0 ∧
      s.tmrArmed = false

/-- R39, second point: what a transaction in flight implies. -/
abbrev State.BusyArmed (s : State) : Prop :=
  s.state ≠ .ready →
    s.tmrArmed = true ∧ ((s.opcode = s.cfg.opWrite ∧ s.outlen = 11) ∨ (s.opcode = s.cfg.opRead ∧ s.outlen = 7))

/-- R39, third point: the response states belong to a read. -/
abbrev State.ReadOnly (s : State) : Prop :=
  s.state = .waitingResponseLength ∨ s.state = .waitingResponseData ∨ s.state = .sendingResponseAck →
    s.opcode = s.cfg.opRead

/-- R39, fourth point: `INLEN` is non-zero only in `SendingResponseAck`, where it is `DECL_LEN`. -/
abbrev State.ResponseHeld (s : State) : Prop :=
  (s.inlen ≠ 0 → s.state = .sendingResponseAck) ∧ (s.state = .sendingResponseAck → s.inlen = s.declLen)

/-- R39, fifth point: one direction per non-Ready state. It needs `P_TX_CAP` and `P_RSP_HDR_LEN` not 0 (R8). -/
abbrev State.OneDirection (s : State) : Prop :=
  s.state ≠ .ready → s.cfg.txCap ≠ 0 → s.cfg.rspHdrLen ≠ 0 → (s.rxThr ≠ 0 ↔ s.txThr = 0)

/-- R28: `RSP_LEN_M1` and `DECL_LEN` hold an accepted header in the two states after it, and 0 elsewhere. -/
abbrev State.HeaderHeld (s : State) : Prop :=
  if s.state = .waitingResponseData ∨ s.state = .sendingResponseAck then
    s.declLen = declared s.cfg s.rspLenM1 ∧ 1 + s.declLen ≤ s.cfg.maxPayload
  else s.rspLenM1 = 0 ∧ s.declLen = 0

/-- R26, R27: the buffers' sizes and fill counts, and "every byte 0x00" past the fill count. -/
abbrev State.BuffersOk (s : State) : Prop :=
  s.outbuf.length = s.cfg.maxPayload + 2 ∧ s.inbuf.length = s.cfg.maxPayload + 2 ∧
    s.outlen ≤ s.cfg.maxPayload + 2 ∧ s.inlen ≤ s.cfg.maxPayload + 2 ∧
    (∀ b ∈ s.outbuf.drop s.outlen, b = 0) ∧ (∀ b ∈ s.inbuf.drop s.inlen, b = 0)

/-- R26 and §8's "checksum validity of the transmitted frame" (95_test_vectors.md L1-8): in flight, `OPCODE` and `OUTBUF`
hold a request that decodes with no error. -/
abbrev State.BodyValid (s : State) : Prop :=
  s.state ≠ .ready →
    decReq s.cfg s.opcode (s.outbuf.take s.outlen) ≠ .malformed ∧
      decReq s.cfg s.opcode (s.outbuf.take s.outlen) ≠ .checksumError

/-- R131, R30: the threshold registers are those of the state. -/
abbrev State.ThresholdsSet (s : State) : Prop :=
  (s.rxThr, s.txThr) = s.thr s.state

/-- R132, R197: in flight the transport holds the thresholds the block programmed. In `Ready` an anomalous answer to an
opcode's write, which no threshold call follows, can have left it others (I8, entry 4). -/
abbrev State.Programmed (s : State) : Prop :=
  s.state ≠ .ready → s.trRxThr = s.rxThr ∧ s.trTxThr = s.txThr

/-- R132, R199: an armed timer runs the wait of the current generation and state. -/
abbrev State.TimerRuns (s : State) : Prop :=
  s.tmrArmed = true → s.wait = some ⟨s.tmrGen, s.state, s.cfg.tWait.of s.state⟩

/-- The invariant every step keeps: R39 point by point, R28, R26, R27, R131 and R199. -/
abbrev State.Inv (s : State) : Prop :=
  s.ReadyIdle ∧ s.BusyArmed ∧ s.ReadOnly ∧ s.ResponseHeld ∧ s.OneDirection ∧ s.HeaderHeld ∧ s.BuffersOk ∧ s.BodyValid ∧
    s.ThresholdsSet ∧ s.TimerRuns

/-- The tags admitted so far, in order (R84). -/
def admittedTags (h : List OutEvent) : List Byte :=
  h.filterMap fun
    | .admission .admitted tag => some tag
    | _ => none

/-- The tags completed so far, in order (R85). -/
def completedTags (h : List OutEvent) : List Byte :=
  h.filterMap fun
    | .complete tag _ _ => some tag
    | _ => none

/-- "Every terminal outcome must be delivered exactly once per admitted command" (R145): the commands admitted are the
commands completed, in the same order, and the one in flight (R24). -/
abbrev State.Ledger (s : State) : Prop :=
  admittedTags s.history = completedTags s.history ++ if s.state = .ready then [] else [s.tag]

/-- The state changes of R144's matrix: each rule's next state, and `Ready` from every state (R133, R134). -/
def edge : TransactionState → TransactionState → Bool
  | .ready, .sendingOpcode => true
  | .sendingOpcode, .waitingBeginAck => true
  | .waitingBeginAck, .sendingData => true
  | .sendingData, .waitingEndAck => true
  | .waitingEndAck, .waitingResponseLength => true
  | .waitingResponseLength, .waitingResponseData => true
  | .waitingResponseData, .sendingResponseAck => true
  | _, .ready => true
  | _, _ => false

/-- The state after a transaction in flight has ended with an outcome, spelled out register by register (R133, R134):
cleared buffers and registers, `Ready`, thresholds (0, 0), the timer disarmed, and the outputs in their order (D35). -/
def ended (o : TermOutcome) (payload : List Byte) (s : State) : State :=
  { s with
    state := .ready
    opcode := 0x00
    outbuf := List.replicate (s.cfg.maxPayload + 2) 0x00
    outlen := 0
    inbuf := List.replicate (s.cfg.maxPayload + 2) 0x00
    inlen := 0
    rspLenM1 := 0
    declLen := 0
    rxThr := 0
    txThr := 0
    trRxThr := 0
    trTxThr := 0
    tmrArmed := false
    wait := none
    history := s.history ++ [.timerDisarm, .uartSetThreshold 0 0, .complete s.tag o payload] }

/-- The state after a transaction in flight has moved to another non-Ready state with thresholds `(rx, tx)`, spelled out
register by register (R132): one threshold call, one disarming, one arming under a new generation, in order (D35). -/
def moved (st : TransactionState) (rx tx : Half) (s : State) : State :=
  { s with
    state := st
    rxThr := rx
    txThr := tx
    trRxThr := rx
    trTxThr := tx
    tmrArmed := true
    tmrGen := s.tmrGen + 1
    wait := some ⟨s.tmrGen + 1, st, s.cfg.tWait.of st⟩
    history := s.history ++ [.timerDisarm, .uartSetThreshold rx tx, .timerArm (s.tmrGen + 1) st] }

/-- The bytes that open the units the block sends tell them apart: the two opcodes, the response-ack, and the length bytes
3 and 1 of the bodies. The values of R8 do. -/
abbrev UnitsDistinct (c : Config) : Prop :=
  [c.opWrite, c.opRead, c.rspAck, 3, 1].Nodup

/-- The response format whose bytes the spec gives (R73 to R75): a length in 16-bit words, a checksum over the length byte
and the data, a header of 3 bytes. What another value of these parameters means is the model's choice (entry 7). -/
abbrev SpecFormat (c : Config) : Prop :=
  c.respFormat = ⟨.word, .lengthAndData⟩ ∧ c.rspHdrLen = 3

/-! ### The agents' assumptions: what a claim of progress takes as a premise -/

/-- `t` is the state `k` steps after `s`. -/
def Reaches : Nat → State → State → Prop
  | 0, s, t => s = t
  | k + 1, s, t => ∃ u, step s = .next u ∧ Reaches k u t

/-- The bytes free in the transmit buffer: what its true capacity leaves (R191, R219). -/
def State.txFreeCount (s : State) : Int := (s.trCap : Int) - s.trTx.length

/-- The transport keeps to the true capacity of its transmit buffer at this point: it holds no more bytes than that, and the
notification it has latched reports no more free (R191, R219, R248). -/
abbrev State.WithinCapacity (s : State) : Prop :=
  s.trTx.length ≤ s.trCap ∧ (s.ntfPend = true → s.ntfTx.toInt ≤ (s.trCap : Int))

/-- The transport keeps to its true capacity all along the run from `s`: what R254 takes of it (entry 23). -/
def State.Capacity (s : State) : Prop :=
  ∀ j t, Reaches j s t → t.WithinCapacity

/-- The receive threshold the transport was given is met by the bytes it holds (R197). -/
abbrev State.rxDue (s : State) : Prop := 0 < s.trRxThr.toNat ∧ s.trRxThr.toNat ≤ s.trRx.length

/-- The transmit threshold the transport was given is met by the bytes it has free (R197). -/
abbrev State.txDue (s : State) : Prop := 0 < s.trTxThr.toNat ∧ (s.trTxThr.toNat : Int) ≤ s.txFreeCount

/-- The condition on which the transport notifies (R197). -/
abbrev State.due (s : State) : Prop := s.rxDue ∨ s.txDue

/-- The next turn is the transport's `NOTIFY` with its current counts (R191). -/
def State.Notifies (s : State) : Prop :=
  ∃ r rest rx tx, s.turns = .record r :: rest ∧ decodeRecord r = .ok (.notify rx tx) ∧
    rx.toInt = (s.trRx.length : Int) ∧ tx.toInt = s.txFreeCount

/-- The step from `s` to `t` called `UartSetThreshold` (R197). -/
def SetsThreshold (s t : State) : Prop :=
  ∃ out rx tx, t.history = s.history ++ out ∧ OutEvent.uartSetThreshold rx tx ∈ out

/-- Transport assumption A-LEVEL (R198), on the run from `s`: "if a threshold set by `UartSetThreshold` is already met when
it is set, the transport notifies once it is set, and later notifies whenever the condition becomes true again". Where a
step sets thresholds that are met, or makes the condition true, a `NOTIFY` with the current counts comes, unless the
condition lapses first. -/
def State.ALevel (s : State) : Prop :=
  ∀ j t u, Reaches j s t → step t = .next u → u.due → ¬t.due ∨ SetsThreshold t u →
    ∃ k v, Reaches k u v ∧ (v.Notifies ∨ ¬v.due)

/-- The timer's fairness (R199), on the run from `s`: "while a wait stays armed and not disarmed, a fire with its generation
is eventually consumed by a core step". -/
def State.TimerFair (s : State) : Prop :=
  ∀ j t, Reaches j s t → t.tmrArmed = true →
    ∃ k u, Reaches k t u ∧ (u.tmrArmed = false ∨ u.tmrGen ≠ t.tmrGen ∨
      (u.turns.head? = some .takeTimer ∧ u.tmfPend = true ∧ u.tmfGen = t.tmrGen))

/-- The event a state waits for, with the counts last notified (R131). -/
def State.awaitedEvent (s : State) : Option Event :=
  match s.state with
  | .ready => none
  | .sendingOpcode | .sendingData | .sendingResponseAck => some (.txFree s.ntfTx)
  | .waitingBeginAck | .waitingEndAck | .waitingResponseLength | .waitingResponseData => some (.rxAvailable s.ntfRx)

end Sys2Proof.Machine
end

