-- ==== Sys2Proof/Certificates/Slice0/Obligations.lean ====
section
/-! DEFINITION. The statements about the frame engine that the provers are given. Each docstring names the rules of spec/ it formalises. -/

open Sys2Proof Sys2Proof.Machine

/-! ### Encodings -/

/-- R71, R72, R74 to R76, R81: decoding an encoded well-formed instruction gives it back, every operand at every value,
under every configuration whose unit-opening bytes differ, as those of R8 do. -/
def Obligations.DecodeEncodeRoundTrip : Prop :=
  ∀ (c : Config) (i : Sys2Proof.Instr), UnitsDistinct c → i.WellFormed c = true →
    decode c i.expect (encode c i) = .ok i

/-- R70, R78: of the bytes on their way to the device, the unit in front is read back and the bytes after it are left. -/
def Obligations.TransmittedUnitIsReadBack : Prop :=
  ∀ (c : Config) (i : Sys2Proof.Instr) (u more : List Byte), UnitsDistinct c → encode c i = .toDevice u →
    decodeUnit c (u ++ more) = .ok (i, more)

/-- R81: a record has one meaning: the instruction it decodes to encodes to that very record. -/
def Obligations.DecodedRecordEncodesBack : Prop :=
  ∀ (c : Config) (r : Record) (i : Sys2Proof.Instr), decodeRecord r = .ok i → encode c i = .record r

/-- R83: reserved kinds and non-zero reserved fields are refused, and no operand value of a command is reserved. -/
def Obligations.ReservedRecordsAreRefused : Prop :=
  (∀ (s : State) (r : Record) (rest : List Turn), s.turns = .record r :: rest →
    (5 ≤ (r.extractLsb' 0 4).toNat → step s = .refused .reservedKind) ∧
    (r.extractLsb' 0 4 = 1#4 → r.extractLsb' 36 32 ≠ 0#32 → step s = .refused .reservedField) ∧
    (r.extractLsb' 0 4 = 2#4 → r.extractLsb' 12 56 ≠ 0#56 → step s = .refused .reservedField) ∧
    (r.extractLsb' 0 4 = 4#4 → r.extractLsb' 36 32 ≠ 0#32 → step s = .refused .reservedField)) ∧
  (∀ (kind : BitVec 4) (rest : BitVec 64) (s : State), exec (.reservedKind kind rest) s = .refused .reservedKind) ∧
  (∀ (index : Half) (sub node : Byte) (data : Word),
    decodeRecord (data ++ node ++ sub ++ index ++ 0#4) = .ok (.cmdWriteObject index sub node data)) ∧
  (∀ (index : Half) (sub node : Byte),
    decodeRecord (0#32 ++ node ++ sub ++ index ++ 1#4) = .ok (.cmdReadObject index sub node))

/-- 95_test_vectors.md L2-14, L1-1, L2-3, L2-5 and L2-6: words written out from the spec's encodings decode to what they stand for. -/
def Obligations.VectorWordsDecode : Prop :=
  decodeRecord 0x00000064010020310#68 = .ok (.cmdWriteObject 0x2031 0 1 100) ∧
  decodeRecord 0x00000000010060411#68 = .ok (.cmdReadObject 0x6041 0 1) ∧
  decodeRecord 0x00000000000000052#68 = .ok (.cancel 5) ∧
  decodeRecord 0x0000000E000000063#68 = .ok (.notify 6 14) ∧
  decodeRecord 0x00000000000000024#68 = .ok (.timerFired 2) ∧
  decodeUnit Config.reference [0x03, 0x31, 0x20, 0x00, 0x01, 0x64, 0x00, 0x00, 0x00, 0x8A, 0xC7] =
    .ok (.writeBody 0x2031 0 1 100 0xC78A, []) ∧
  decodeUnit Config.reference [0x01, 0x31, 0x20, 0x00, 0x01, 0x0F, 0x0B] = .ok (.readBody 0x2031 0 1 0x0B0F, []) ∧
  decodeReply Config.reference (.header 3) [0x01, 0x89, 0x11] = .ok (.rspHeader ⟨1, []⟩ 0x1189) ∧
  decodeReply Config.reference (.data 4) [0x64, 0x00, 0x00, 0x00, 0x4C, 0xE0] = .ok (.rspData [0x64, 0, 0, 0] 0xE04C)

/-! ### The codec -/

/-- R102: seed 0, incremental, the corner cases, the check value and the example, in both bit orders. -/
def Obligations.ChecksumIsIncremental : Prop :=
  (∀ o : CrcOrder, crc16 o [] = 0 ∧ crc16 o [0x00] = 0) ∧
  (∀ (o : CrcOrder) (s : List Byte) (b : Byte), crc16 o (s ++ [b]) = crcStep o (crc16 o s) b) ∧
  (∀ (o : CrcOrder) (s t : List Byte), crc16 o (s ++ t) = t.foldl (crcStep o) (crc16 o s)) ∧
  crc16 .lsbFirst [0x31, 0x32, 0x33, 0x34, 0x35, 0x36, 0x37, 0x38, 0x39] = 0x2189 ∧
  crc16 .msbFirst [0x31, 0x32, 0x33, 0x34, 0x35, 0x36, 0x37, 0x38, 0x39] = 0x31C3 ∧
  crc16 .lsbFirst [0x11, 0x03, 0x31, 0x20, 0x00, 0x01, 0x64, 0x00, 0x00, 0x00] = 0xC78A ∧
  crc16 .msbFirst [0x11, 0x03, 0x31, 0x20, 0x00, 0x01, 0x64, 0x00, 0x00, 0x00] = 0x801C

/-- R101: the table form computes `crc_step` on every register value and byte, in both bit orders. -/
def Obligations.ChecksumTableForm : Prop :=
  (∀ (c : Half) (b : Byte),
    crcStep .lsbFirst c b = (c >>> 8) ^^^ crcStep .lsbFirst 0 ((c ^^^ b.setWidth 16).setWidth 8)) ∧
  (∀ (c : Half) (b : Byte),
    crcStep .msbFirst c b = (c <<< 8) ^^^ crcStep .msbFirst 0 ((c >>> 8 ^^^ b.setWidth 16).setWidth 8)) ∧
  crcStep .lsbFirst 0 0x01 = 0x1189 ∧ crcStep .lsbFirst 0 0x80 = 0x8408 ∧
  crcStep .msbFirst 0 0x01 = 0x1021 ∧ crcStep .msbFirst 0 0x80 = 0x9188

/-- R103, R104: the two encoders byte by byte, and when they fail. The opcodes are `P_OP_WRITE` and `P_OP_READ` (R8: 0x11 and
0x10). -/
def Obligations.RequestEncoders : Prop :=
  (∀ (cfg : Config) (index : Half) (sub node : Byte) (data : Word),
    let p : List Byte := [3, index.extractLsb' 0 8, index.extractLsb' 8 8, sub, node, data.extractLsb' 0 8,
      data.extractLsb' 8 8, data.extractLsb' 16 8, data.extractLsb' 24 8]
    let c := crc16 cfg.crcOrder (cfg.opWrite :: p)
    encWrite cfg index sub node data =
      if 9 ≤ cfg.maxPayload then some ⟨cfg.opWrite, p ++ [c.extractLsb' 0 8, c.extractLsb' 8 8]⟩ else none) ∧
  (∀ (cfg : Config) (index : Half) (sub node : Byte),
    let p : List Byte := [1, index.extractLsb' 0 8, index.extractLsb' 8 8, sub, node]
    let c := crc16 cfg.crcOrder (cfg.opRead :: p)
    encRead cfg index sub node =
      if 5 ≤ cfg.maxPayload then some ⟨cfg.opRead, p ++ [c.extractLsb' 0 8, c.extractLsb' 8 8]⟩ else none) ∧
  encWrite Config.reference 0x2031 0 1 100 =
    some ⟨0x11, [0x03, 0x31, 0x20, 0x00, 0x01, 0x64, 0x00, 0x00, 0x00, 0x8A, 0xC7]⟩ ∧
  encWrite { Config.reference with crcOrder := .msbFirst } 0x2031 0 1 100 =
    some ⟨0x11, [0x03, 0x31, 0x20, 0x00, 0x01, 0x64, 0x00, 0x00, 0x00, 0x1C, 0x80]⟩ ∧
  encRead Config.reference 0x2031 0 1 = some ⟨0x10, [0x01, 0x31, 0x20, 0x00, 0x01, 0x0F, 0x0B]⟩ ∧
  encRead { Config.reference with crcOrder := .msbFirst } 0x2031 0 1 =
    some ⟨0x10, [0x01, 0x31, 0x20, 0x00, 0x01, 0x6F, 0x7C]⟩

/-- R110 (a): the request decoder recovers the fields of every encoded request, with no checksum error, in both orders. -/
def Obligations.RequestRoundTrip : Prop :=
  (∀ (cfg : Config) (index : Half) (sub node : Byte) (data : Word) (q : Request),
    encWrite cfg index sub node data = some q →
    decReq cfg q.opcode q.body = .write index sub node data) ∧
  (∀ (cfg : Config) (index : Half) (sub node : Byte) (q : Request),
    encRead cfg index sub node = some q → decReq cfg q.opcode q.body = .read index sub node)

/-- R109: what the request decoder answers on every opcode and body, in both orders, the opcodes
being `P_OP_WRITE` and `P_OP_READ` (R8: 0x11 and 0x10); and no request with one byte
changed decodes (R109 for a single bit; 95_test_vectors.md L1-2 "Changing any one byte gives `ChecksumError`"). -/
def Obligations.RequestDecoder : Prop :=
  (∀ (cfg : Config) (op : Byte) (body : List Byte) (index : Half) (sub node : Byte) (data : Word),
    let p : List Byte := [3, index.extractLsb' 0 8, index.extractLsb' 8 8, sub, node, data.extractLsb' 0 8,
      data.extractLsb' 8 8, data.extractLsb' 16 8, data.extractLsb' 24 8]
    let c := crc16 cfg.crcOrder (cfg.opWrite :: p)
    decReq cfg op body = .write index sub node data ↔
      op = cfg.opWrite ∧ body = p ++ [c.extractLsb' 0 8, c.extractLsb' 8 8]) ∧
  (∀ (cfg : Config) (op : Byte) (body : List Byte) (index : Half) (sub node : Byte),
    let p : List Byte := [1, index.extractLsb' 0 8, index.extractLsb' 8 8, sub, node]
    let c := crc16 cfg.crcOrder (cfg.opRead :: p)
    decReq cfg op body = .read index sub node ↔ op = cfg.opRead ∧ body = p ++ [c.extractLsb' 0 8, c.extractLsb' 8 8]) ∧
  (∀ (cfg : Config) (op : Byte) (body : List Byte), decReq cfg op body = .malformed ↔
    ¬((op = cfg.opWrite ∧ body.length = 11 ∧ body.head? = some 3) ∨ (op = cfg.opRead ∧ body.length = 7 ∧ body.head? = some 1))) ∧
  (∀ (cfg : Config) (op : Byte) (body : List Byte) (k : Nat) (b : Byte) (h : k < body.length),
    decReq cfg op body ≠ .malformed → decReq cfg op body ≠ .checksumError → b ≠ body[k] →
    decReq cfg op (body.set k b) = .malformed ∨ decReq cfg op (body.set k b) = .checksumError)

/-- R105 to R108: the ack, header and payload decoders on every input, and the response-ack byte, in the format of R74 and
R75. The bytes are `P_ACK` and `P_RSP_ACK` (R8: both 0x4F). -/
def Obligations.ReplyDecoders : Prop :=
  (∀ (cfg : Config) (b : Byte),
    (decAck cfg b = .accepted ↔ b = cfg.ack) ∧ (decAck cfg b = .rejected ↔ b ≠ cfg.ack)) ∧
  (∀ (cfg : Config) (h0 c0 c1 : Byte), ∃ crc : Half, crc.toNat = c0.toNat + 256 * c1.toNat ∧
    decodeReply cfg (.header 3) [h0, c0, c1] = .ok (.rspHeader ⟨h0, []⟩ crc)) ∧
  (∀ (cfg : Config) (data : List Byte) (c0 c1 : Byte), ∃ crc : Half, crc.toNat = c0.toNat + 256 * c1.toNat ∧
    decodeReply cfg (.data data.length) (data ++ [c0, c1]) = .ok (.rspData data crc)) ∧
  (∀ (cfg : Config) (h0 : Byte) (crc : Half) (d : Nat), SpecFormat cfg →
    (decRspHdr cfg h0 crc = some d ↔
      crc = crc16 cfg.crcOrder [h0] ∧ d = 2 * (h0.toNat + 1) ∧ 1 + d ≤ cfg.maxPayload)) ∧
  (∀ (cfg : Config) (h0 : Byte) (data p : List Byte) (crc : Half), SpecFormat cfg →
    (decRspPayload cfg h0 data crc = some p ↔ crc = crc16 cfg.crcOrder (h0 :: data) ∧ p = data)) ∧
  (∀ cfg : Config, encRspAck cfg = cfg.rspAck) ∧ Config.reference.ack = 0x4F ∧ encRspAck Config.reference = 0x4F ∧
  decRspHdr Config.reference 0x01 0x1189 = some 4 ∧ decRspHdr Config.reference 0x01 0x1289 = none ∧
  decRspHdr Config.reference 0x00 0x0000 = some 2 ∧ decRspHdr Config.reference 0x06 0x6536 = none ∧
  decRspHdr Config.reference 0xFF 0x0F78 = none ∧
  decRspPayload Config.reference 0x01 [0x64, 0, 0, 0] 0xE04C = some [0x64, 0, 0, 0] ∧
  decRspPayload Config.reference 0x00 [0, 0] 0x0000 = some [0, 0]

/-! ### The whole machine -/

/-- R241 (and R38, R240): a reset in any state sets every register to its reset value, makes the one threshold call and
no other, and gives the transaction in flight no record. -/
def Obligations.ResetSetsEveryRegister : Prop :=
  ∀ (s : State) (rest : List Turn), s.turns = .reset :: rest →
    ∃ t, step s = .next t ∧
      t.state = .ready ∧ t.opcode = 0 ∧ t.outbuf = List.replicate (s.cfg.maxPayload + 2) 0 ∧ t.outlen = 0 ∧
      t.inbuf = List.replicate (s.cfg.maxPayload + 2) 0 ∧ t.inlen = 0 ∧ t.rspLenM1 = 0 ∧ t.declLen = 0 ∧ t.tag = 0 ∧
      t.nextTag = 0 ∧ t.rxThr = 0 ∧ t.txThr = 0 ∧ t.tmrArmed = false ∧ t.tmrGen = 0 ∧ t.ntfPend = false ∧
      t.ntfRx = 0 ∧ t.ntfTx = 0 ∧ t.tmfPend = false ∧ t.tmfGen = 0 ∧ t.canPend = false ∧ t.canTag = 0 ∧
      t.trRxThr = 0 ∧ t.trTxThr = 0 ∧ t.history = s.history ++ [.uartSetThreshold 0 0] ∧
      completedTags t.history = completedTags s.history

/-- What stands outside the block is left as it was by a reset: the model's choice (entry 12), not a rule of the spec. -/
def Obligations.ResetLeavesTheOutside : Prop :=
  ∀ (s : State) (rest : List Turn), s.turns = .reset :: rest →
    ∃ t, step s = .next t ∧ t.cfg = s.cfg ∧ t.trRx = s.trRx ∧ t.trTx = s.trTx ∧ t.trCap = s.trCap ∧ t.delivered = s.delivered ∧
      t.wait = s.wait ∧ t.turns = rest ∧ t.answers = s.answers ∧ t.draws = s.draws

/-- R38, R240: the state right after reset, under every configuration, meets the invariants and the ledger. -/
def Obligations.ResetMeetsInvariant : Prop :=
  ∀ c : Config, (State.resetWith c).Inv ∧ (State.resetWith c).Programmed ∧ (State.resetWith c).Ledger

/-- R39 (and R24, R26 to R28, R131, R199): every step keeps the invariant. -/
def Obligations.StepKeepsInvariant : Prop :=
  ∀ s t : State, s.Inv → step s = .next t → t.Inv

/-- R132, R197: from every state a step leaves the transport, in flight, with the thresholds of the block, whatever the
transport's answers (I8). -/
def Obligations.TransportStaysProgrammed : Prop :=
  ∀ s t : State, s.Programmed → step s = .next t → t.Programmed

/-- R145 "Every terminal outcome must be delivered exactly once per admitted command": every step but a reset keeps the
ledger of admissions and completions. R241 gives the premise on reset. -/
def Obligations.OutcomeDeliveredExactlyOnce : Prop :=
  ∀ s t : State, s.Inv → s.Ledger → s.turns.head? ≠ some .reset → step s = .next t → t.Ledger

/-- R144: from every state, a step stays or follows an edge of the matrix. -/
def Obligations.StateFollowsMatrix : Prop :=
  ∀ s t : State, step s = .next t → t.state = s.state ∨ edge s.state t.state = true

/-- R145 (a) "only admission leaves `Ready`": a step that leaves `Ready` took a command record and answers `Admitted`
with the tag the transaction then carries. -/
def Obligations.OnlyAdmissionLeavesReady : Prop :=
  ∀ s t : State, s.state = .ready → step s = .next t → t.state ≠ .ready →
    t.state = .sendingOpcode ∧ t.tag = s.nextTag ∧ t.nextTag = s.nextTag + 1 ∧
    t.history.getLast? = some (.admission .admitted s.nextTag) ∧
    ∃ r rest, s.turns = .record r :: rest ∧
      ((∃ index sub node data, decodeRecord r = .ok (.cmdWriteObject index sub node data)) ∨
        ∃ index sub node, decodeRecord r = .ok (.cmdReadObject index sub node))

/-- R35 "No rule of the block reads the history": another history changes neither the outcome of a step nor the outputs
it adds, and outputs are only ever added. -/
def Obligations.HistoryIsNeverRead : Prop :=
  ∀ (s t : State), step s = .next t → ∃ out, t.history = s.history ++ out ∧
    ∀ h : List OutEvent, step { s with history := h } = .next { t with history := h ++ out }

/-- R60: no step changes the configuration. That none changes the transport's true capacity either, through an anomalous answer
or a reset, is the model's choice (entries 4, 12 and 23), not a rule of the spec. -/
def Obligations.ConfigurationIsFixed : Prop :=
  ∀ s t : State, step s = .next t → t.cfg = s.cfg ∧ t.trCap = s.trCap

/-- R131, R132, R142: a step that does not change `STATE` leaves timer and thresholds alone; one that does arms a new
generation for a non-Ready state and disarms for `Ready`. -/
def Obligations.TimerFollowsState : Prop :=
  ∀ s t : State, s.Inv → s.turns.head? ≠ some .reset → step s = .next t →
    (t.state = s.state →
      t.tmrArmed = s.tmrArmed ∧ t.tmrGen = s.tmrGen ∧ t.rxThr = s.rxThr ∧ t.txThr = s.txThr ∧ t.wait = s.wait) ∧
    (t.state ≠ s.state → t.state = .ready →
      t.tmrArmed = false ∧ t.tmrGen = s.tmrGen ∧ t.rxThr = 0 ∧ t.txThr = 0 ∧ t.wait = none) ∧
    (t.state ≠ s.state → t.state ≠ .ready →
      t.tmrArmed = true ∧ t.tmrGen = s.tmrGen + 1 ∧ (t.rxThr, t.txThr) = t.thr t.state ∧
        t.wait = some ⟨s.tmrGen + 1, t.state, s.cfg.tWait.of t.state⟩)

/-- R145 (a), R85, R174, R175: a completion comes only from a transaction in flight and leaves `Ready`; its record on `CPL`
carries the tag, the outcome's code 0 to 4, and the payload with its length; only a read's `Success` carries a payload,
which fits; and a write never ends with `ChecksumError`. -/
def Obligations.CompletionRecords : Prop :=
  ∀ (s t : State) (out : List OutEvent) (tag : Byte) (o : TermOutcome) (p : List Byte),
    s.Inv → step s = .next t → t.history = s.history ++ out → OutEvent.complete tag o p ∈ out →
    s.state ≠ .ready ∧ t.state = .ready ∧ tag = s.tag ∧
      (p ≠ [] → o = .success ∧ s.opcode = s.cfg.opRead ∧ p.length + 1 ≤ s.cfg.maxPayload) ∧
      (o = .checksumError → s.opcode = s.cfg.opRead) ∧
      ∃ code : BitVec 3, (OutEvent.complete tag o p).cplRecord = some ⟨s.tag, code, p.length, p⟩ ∧
        (o = .success → code = 0) ∧ (o = .protocolNack → code = 1) ∧ (o = .checksumError → code = 2) ∧
        (o = .timeout → code = 3) ∧ (o = .unexpectedError → code = 4)

/-- R84: an answer on `ADM` is a record of the result's code 0 to 3 and the tag of the transaction it admits, 0 where it
admits none. -/
def Obligations.AdmissionRecords : Prop :=
  ∀ (s t : State) (out : List OutEvent) (res : AdmResult) (tag : Byte),
    step s = .next t → t.history = s.history ++ out → OutEvent.admission res tag ∈ out →
    ∃ code : BitVec 2, (OutEvent.admission res tag).admRecord = some ⟨code, tag⟩ ∧
      (res = .admitted → code = 0 ∧ t.state = .sendingOpcode ∧ tag = t.tag) ∧
      (res ≠ .admitted → tag = 0 ∧ t.state = s.state) ∧ (res = .serialBufferFull → code = 1) ∧
      (res = .driverBusy → code = 2) ∧ (res = .unexpectedError → code = 3)

/-- R247 "The block never flushes the receive buffer": a step that makes no read, and whose writes are answered in the contract
(after another answer the transport's state is free, I8), only ever adds received bytes. For a reset this is the model's
choice (entry 12). -/
def Obligations.ReceiveBufferIsNeverFlushed : Prop :=
  ∀ (s t : State) (out : List OutEvent), step s = .next t → t.history = s.history ++ out →
    (∀ n cr r, OutEvent.uartRead n cr r ∉ out) →
    (∀ bytes nw, OutEvent.uartWrite bytes nw ∈ out → 0 ≤ nw.toInt ∧ nw.toInt ≤ bytes.length) → ∃ u, t.trRx = s.trRx ++ u

/-- R195 "no step consumes two inputs": a latch stays pending through every step but its own turn and a reset. -/
def Obligations.LatchWaitsForItsTurn : Prop :=
  ∀ s t : State, step s = .next t → s.turns.head? ≠ some .reset →
    (s.ntfPend = true → s.turns.head? ≠ some .takeNotify → t.ntfPend = true) ∧
    (s.tmfPend = true → s.turns.head? ≠ some .takeTimer → t.tmfPend = true) ∧
    (s.canPend = true → s.turns.head? ≠ some .takeCancel → t.canPend = true)

/-- When what is fetched spells an instruction, the step is that instruction's meaning. A record with the turn taken: R202.
That a unit which leaves or has been read runs as its instruction is the model's reading (entry 1), and that a unit leaves
whole in one turn is its choice (entry 14). -/
def Obligations.StepRunsDecodedInstruction : Prop :=
  ∀ (s : State) (rest : List Turn) (i : Sys2Proof.Instr),
    (∀ r, s.turns = .record r :: rest → decodeRecord r = .ok i → step s = exec i { s with turns := rest }) ∧
    (∀ more, s.turns = .unitOut :: rest → decodeUnit s.cfg s.trTx = .ok (i, more) →
      step s = exec i { s with turns := rest, trTx := more }) ∧
    (∀ e cr u s₁, s.turns = .takeNotify :: rest → s.ntfPend = true → meets s.ntfRx s.rxThr = true →
      s.expects = some e → { s with turns := rest, ntfPend := false }.uartRead e.length = (cr, u, s₁) →
      cr.toInt = (e.length : Int) → decodeReply s.cfg e u = .ok i → step s = exec i s₁)

/-! ### The input records -/

/-- R191: NOTIFY writes the notification latch and nothing else, and a newer one replaces an unconsumed older one. -/
def Obligations.NotifyWritesLatch : Prop :=
  (∀ (rx tx : Word) (s : State),
    exec (.notify rx tx) s = .next { s with ntfRx := rx, ntfTx := tx, ntfPend := true }) ∧
  (∀ (rx tx rx' tx' : Word) (s t : State), exec (.notify rx tx) s = .next t →
    exec (.notify rx' tx') t = exec (.notify rx' tx') s)

/-- R193, R194: TIMER_FIRED and CANCEL write their latch and nothing else, in every state. -/
def Obligations.TimerAndCancelWriteLatches : Prop :=
  (∀ (g : Word) (s : State), exec (.timerFired g) s = .next { s with tmfGen := g, tmfPend := true }) ∧
  (∀ (tag : Byte) (s : State), exec (.cancel tag) s = .next { s with canTag := tag, canPend := true })

/-- R81, R191, R193, R194: the three latched records, from their bits on the port to the latch. -/
def Obligations.LatchedRecordsFromBits : Prop :=
  ∀ (s : State) (rest : List Turn),
    (∀ rx tx : Word, s.turns = .record (tx ++ rx ++ 3#4) :: rest →
      step s = .next { s with turns := rest, ntfRx := rx, ntfTx := tx, ntfPend := true }) ∧
    (∀ g : Word, s.turns = .record (0#32 ++ g ++ 4#4) :: rest →
      step s = .next { s with turns := rest, tmfGen := g, tmfPend := true }) ∧
    (∀ tag : Byte, s.turns = .record (0#56 ++ tag ++ 2#4) :: rest →
      step s = .next { s with turns := rest, canTag := tag, canPend := true })

/-- R170: CMD_WRITE_OBJECT, every answer: busy, encoding failure, the three kinds of opcode write. Frame: what is not
named is unchanged. The transport's count is its next answer, whatever that is; of an anomalous one it is said what the block
does, not what the transport keeps (`AnomalousOpcodeWrite`). The opcode is `P_OP_WRITE` (R8: 0x11). -/
def Obligations.WriteObjectAdmission : Prop :=
  ∀ (s : State) (index : Half) (sub node : Byte) (data : Word),
    let p : List Byte := [3, index.extractLsb' 0 8, index.extractLsb' 8 8, sub, node, data.extractLsb' 0 8,
      data.extractLsb' 8 8, data.extractLsb' 16 8, data.extractLsb' 24 8]
    let c := crc16 s.cfg.crcOrder (s.cfg.opWrite :: p)
    let i := Sys2Proof.Instr.cmdWriteObject index sub node data
    let a := s.answer.2
    (s.state ≠ .ready → exec i s = .next { s with history := s.history ++ [.admission .driverBusy 0] }) ∧
    (s.state = .ready → s.cfg.maxPayload < 9 →
      exec i s = .next { s with history := s.history ++ [.admission .unexpectedError 0] }) ∧
    (s.state = .ready → 9 ≤ s.cfg.maxPayload → s.answer.1 = 1 →
      exec i s = .next { a with history := s.history ++ [.uartWrite [s.cfg.opWrite] 1, .admission .serialBufferFull 0] }) ∧
    (s.state = .ready → 9 ≤ s.cfg.maxPayload → s.answer.1 ≠ 0 → s.answer.1 ≠ 1 →
      ∃ t, exec i s = .next t ∧
        t.history = s.history ++ [.uartWrite [s.cfg.opWrite] s.answer.1, .admission .unexpectedError 0] ∧
        { t with trRx := s.trRx, trTx := s.trTx, trRxThr := s.trRxThr, trTxThr := s.trTxThr, delivered := s.delivered,
                 history := s.history, answers := s.answers, draws := s.draws } = s) ∧
    (s.Inv → s.state = .ready → 9 ≤ s.cfg.maxPayload → s.answer.1 = 0 →
      exec i s = .next
        { a with
          state := .sendingOpcode
          opcode := s.cfg.opWrite
          outbuf := p ++ [c.extractLsb' 0 8, c.extractLsb' 8 8] ++ s.outbuf.drop 11
          outlen := 11
          tag := s.nextTag
          nextTag := s.nextTag + 1
          rxThr := 0
          txThr := s.cfg.txCap
          trRxThr := 0
          trTxThr := s.cfg.txCap
          tmrArmed := true
          tmrGen := s.tmrGen + 1
          wait := some ⟨s.tmrGen + 1, .sendingOpcode, s.cfg.tWait.sendingOpcode⟩
          trTx := s.trTx ++ [s.cfg.opWrite]
          history := s.history ++ [.uartWrite [s.cfg.opWrite] 0, .uartSetThreshold 0 s.cfg.txCap,
            .timerArm (s.tmrGen + 1) .sendingOpcode, .admission .admitted s.nextTag] })

/-- R171: CMD_READ_OBJECT, every answer, and the refusal when `P_READ_PATH = refused`. The opcode is `P_OP_READ`
(R8: 0x10). -/
def Obligations.ReadObjectAdmission : Prop :=
  ∀ (s : State) (index : Half) (sub node : Byte),
    let p : List Byte := [1, index.extractLsb' 0 8, index.extractLsb' 8 8, sub, node]
    let c := crc16 s.cfg.crcOrder (s.cfg.opRead :: p)
    let i := Sys2Proof.Instr.cmdReadObject index sub node
    let a := s.answer.2
    (s.cfg.readPath = .refused → exec i s = .refused .readPathRefused) ∧
    (s.cfg.readPath = .enabled → s.state ≠ .ready →
      exec i s = .next { s with history := s.history ++ [.admission .driverBusy 0] }) ∧
    (s.cfg.readPath = .enabled → s.state = .ready → s.cfg.maxPayload < 5 →
      exec i s = .next { s with history := s.history ++ [.admission .unexpectedError 0] }) ∧
    (s.cfg.readPath = .enabled → s.state = .ready → 5 ≤ s.cfg.maxPayload → s.answer.1 = 1 →
      exec i s = .next { a with history := s.history ++ [.uartWrite [s.cfg.opRead] 1, .admission .serialBufferFull 0] }) ∧
    (s.cfg.readPath = .enabled → s.state = .ready → 5 ≤ s.cfg.maxPayload → s.answer.1 ≠ 0 → s.answer.1 ≠ 1 →
      ∃ t, exec i s = .next t ∧
        t.history = s.history ++ [.uartWrite [s.cfg.opRead] s.answer.1, .admission .unexpectedError 0] ∧
        { t with trRx := s.trRx, trTx := s.trTx, trRxThr := s.trRxThr, trTxThr := s.trTxThr, delivered := s.delivered,
                 history := s.history, answers := s.answers, draws := s.draws } = s) ∧
    (s.Inv → s.cfg.readPath = .enabled → s.state = .ready → 5 ≤ s.cfg.maxPayload → s.answer.1 = 0 →
      exec i s = .next
        { a with
          state := .sendingOpcode
          opcode := s.cfg.opRead
          outbuf := p ++ [c.extractLsb' 0 8, c.extractLsb' 8 8] ++ s.outbuf.drop 7
          outlen := 7
          tag := s.nextTag
          nextTag := s.nextTag + 1
          rxThr := 0
          txThr := s.cfg.txCap
          trRxThr := 0
          trTxThr := s.cfg.txCap
          tmrArmed := true
          tmrGen := s.tmrGen + 1
          wait := some ⟨s.tmrGen + 1, .sendingOpcode, s.cfg.tWait.sendingOpcode⟩
          trTx := s.trTx ++ [s.cfg.opRead]
          history := s.history ++ [.uartWrite [s.cfg.opRead] 0, .uartSetThreshold 0 s.cfg.txCap,
            .timerArm (s.tmrGen + 1) .sendingOpcode, .admission .admitted s.nextTag] })

/-- R249, R190 and I8: an anomalous answer to the opcode's write changes nothing but the transport's state, which is free, the
draws and the outputs. That the bytes sent before and the true capacity are kept is the model's choice (entry 4). -/
def Obligations.AnomalousOpcodeWrite : Prop :=
  ∀ s : State, s.state = .ready → s.answer.1 ≠ 0 → s.answer.1 ≠ 1 →
    (∀ (index : Half) (sub node : Byte) (data : Word), 9 ≤ s.cfg.maxPayload →
      ∃ rx tx rt tt sent d, exec (.cmdWriteObject index sub node data) s = .next
        { s.answer.2 with
          trRx := rx, trTx := tx, trRxThr := rt, trTxThr := tt, delivered := s.delivered ++ sent, draws := d
          history := s.history ++ [.uartWrite [s.cfg.opWrite] s.answer.1, .admission .unexpectedError 0] }) ∧
    (∀ (index : Half) (sub node : Byte), s.cfg.readPath = .enabled → 5 ≤ s.cfg.maxPayload →
      ∃ rx tx rt tt sent d, exec (.cmdReadObject index sub node) s = .next
        { s.answer.2 with
          trRx := rx, trTx := tx, trRxThr := rt, trTxThr := tt, delivered := s.delivered ++ sent, draws := d
          history := s.history ++ [.uartWrite [s.cfg.opRead] s.answer.1, .admission .unexpectedError 0] })

/-! ### Units on the link -/

/-- WRITE_OBJECT, READ_OBJECT, WRITE_BODY, READ_BODY and RESPONSE_ACK: the unit's bytes, which are those of R70, R71, R72 and
R76, go to the device in their order (R51), and nothing else changes. That this is the meaning of a sent unit, and that it
runs when the unit leaves, is the model's reading (entry 1). -/
def Obligations.SentUnitReachesDevice : Prop :=
  ∀ s : State,
    exec .writeObject s = .next { s with delivered := s.delivered ++ [s.cfg.opWrite] } ∧
    exec .readObject s = .next { s with delivered := s.delivered ++ [s.cfg.opRead] } ∧
    (∀ (index : Half) (sub node : Byte) (data : Word) (crc : Half),
      exec (.writeBody index sub node data crc) s = .next { s with delivered := s.delivered ++
        [3, index.extractLsb' 0 8, index.extractLsb' 8 8, sub, node, data.extractLsb' 0 8, data.extractLsb' 8 8,
          data.extractLsb' 16 8, data.extractLsb' 24 8, crc.extractLsb' 0 8, crc.extractLsb' 8 8] }) ∧
    (∀ (index : Half) (sub node : Byte) (crc : Half),
      exec (.readBody index sub node crc) s = .next { s with delivered := s.delivered ++
        [1, index.extractLsb' 0 8, index.extractLsb' 8 8, sub, node, crc.extractLsb' 0 8, crc.extractLsb' 8 8] }) ∧
    exec .responseAck s = .next { s with delivered := s.delivered ++ [s.cfg.rspAck] }

/-- R51, R190, R201: bytes leave the front of the transmit buffer in order, and received bytes join the receive buffer at
its end; nothing else changes. That a turn sends a whole unit or a single byte is the model's choice (entry 14), and that
the unit is an instruction is its reading (entry 1). -/
def Obligations.LinkBuffersAreFifos : Prop :=
  ∀ (s : State) (rest : List Turn),
    (∀ (i : Sys2Proof.Instr) (u more : List Byte), UnitsDistinct s.cfg → s.turns = .unitOut :: rest →
      encode s.cfg i = .toDevice u → s.trTx = u ++ more →
      step s = .next { s with turns := rest, trTx := more, delivered := s.delivered ++ u }) ∧
    (∀ (b : Byte) (more : List Byte), s.turns = .byteOut :: rest → s.trTx = b :: more →
      step s = .next { s with turns := rest, trTx := more, delivered := s.delivered ++ [b] }) ∧
    (∀ u : List Byte, s.turns = .arrive u :: rest → step s = .next { s with turns := rest, trRx := s.trRx ++ u })

/-- R136, R138: ACK_ACCEPT where it completes. In `WaitingBeginAck` the whole body is submitted; in `WaitingEndAck` a
write succeeds and a read goes on to its response header. When the unit runs, and that it is a no-op elsewhere, is the
model's reading (entries 1 and 10); that the bytes sent before an anomalous answer and the true capacity are kept is its
choice (entry 4). -/
def Obligations.AckAcceptMeaning : Prop :=
  ∀ (s : State), s.Inv →
    (s.state = .waitingBeginAck → s.answer.1 = 0 →
      exec .ackAccept s = .next (moved .sendingData 0 s.cfg.txCap
        { s.answer.2 with trTx := s.trTx ++ s.outbuf.take s.outlen,
                          history := s.history ++ [.uartWrite (s.outbuf.take s.outlen) 0] })) ∧
    (s.state = .waitingBeginAck → s.answer.1 ≠ 0 →
      ∃ rx tx sent d, exec .ackAccept s = .next (ended .unexpectedError []
        { s.answer.2 with trRx := rx, trTx := tx, delivered := s.delivered ++ sent, draws := d,
                          history := s.history ++ [.uartWrite (s.outbuf.take s.outlen) s.answer.1] })) ∧
    (s.state = .waitingEndAck → s.opcode = s.cfg.opWrite → exec .ackAccept s = .next (ended .success [] s)) ∧
    (s.state = .waitingEndAck → s.opcode ≠ s.cfg.opWrite →
      exec .ackAccept s = .next (moved .waitingResponseLength s.cfg.rspHdrLen 0 s)) ∧
    (s.state ≠ .waitingBeginAck → s.state ≠ .waitingEndAck → exec .ackAccept s = .next s)

/-- R105, R136, R138: ACK_REJECT, any byte but `P_ACK` (R8: 0x4F), ends the transaction with `ProtocolNack` in both ack states, for a
write and for a read. That it is a no-op elsewhere is the model's reading (entries 1 and 10). -/
def Obligations.AckRejectMeaning : Prop :=
  ∀ (s : State) (b : Byte), s.Inv → b ≠ s.cfg.ack →
    (s.state = .waitingBeginAck ∨ s.state = .waitingEndAck →
      exec (.ackReject b) s = .next (ended .protocolNack [] s)) ∧
    (s.state ≠ .waitingBeginAck → s.state ≠ .waitingEndAck → exec (.ackReject b) s = .next s)

/-- R106, R139: RSP_HEADER: a good header is held and its data awaited; a bad checksum or an over-long declared length
ends the transaction with `ChecksumError`. That it is a no-op elsewhere is the model's reading (entries 1 and 10). The rules
give the format of R74 only: a length counted in bytes (`declared` under the other length unit) and bytes of a longer header
that nothing reads (`fill` not empty) are the model's choice (entry 7). -/
def Obligations.RspHeaderMeaning : Prop :=
  ∀ (s : State) (h0 : Byte) (fill : List Byte) (crc : Half), s.Inv →
    (s.state = .waitingResponseLength → crc = crc16 s.cfg.crcOrder [h0] →
      1 + declared s.cfg h0 ≤ s.cfg.maxPayload →
      exec (.rspHeader ⟨h0, fill⟩ crc) s = .next (moved .waitingResponseData (BitVec.ofNat 16 (declared s.cfg h0 + 2)) 0
        { s with rspLenM1 := h0, declLen := declared s.cfg h0 })) ∧
    (s.state = .waitingResponseLength →
      crc ≠ crc16 s.cfg.crcOrder [h0] ∨ s.cfg.maxPayload < 1 + declared s.cfg h0 →
      exec (.rspHeader ⟨h0, fill⟩ crc) s = .next (ended .checksumError [] s)) ∧
    (s.state ≠ .waitingResponseLength → exec (.rspHeader ⟨h0, fill⟩ crc) s = .next s)

/-- R107, R140: RSP_DATA: good data are held and the response-ack submitted; a bad checksum ends the transaction with
`ChecksumError` and sends no byte; a response-ack not taken ends it with `UnexpectedError`. That a unit
of another length than `DECL_LEN + 2` ends it with `UnexpectedError`, and that the unit is a no-op in other states, is the
model's reading (entries 1 and 10). The rules give the format of R75 only: a checksum over the full frame (`dataCovered`
under the other coverage) is the model's choice (entry 7), and so is that the bytes sent before an anomalous answer
and the true capacity are kept (entry 4). -/
def Obligations.RspDataMeaning : Prop :=
  ∀ (s : State) (data : List Byte) (crc : Half), s.Inv →
    (s.state = .waitingResponseData → data.length = s.declLen →
      crc = crc16 s.cfg.crcOrder (dataCovered s.cfg s.rspLenM1 data) → s.answer.1 = 0 →
      exec (.rspData data crc) s = .next (moved .sendingResponseAck 0 s.cfg.txCap
        { s.answer.2 with inbuf := data ++ s.inbuf.drop data.length, inlen := s.declLen, trTx := s.trTx ++ [s.cfg.rspAck],
                          history := s.history ++ [.uartWrite [s.cfg.rspAck] 0] })) ∧
    (s.state = .waitingResponseData → data.length = s.declLen →
      crc = crc16 s.cfg.crcOrder (dataCovered s.cfg s.rspLenM1 data) → s.answer.1 ≠ 0 →
      ∃ rx tx sent d, exec (.rspData data crc) s = .next (ended .unexpectedError []
        { s.answer.2 with trRx := rx, trTx := tx, delivered := s.delivered ++ sent, draws := d,
                          history := s.history ++ [.uartWrite [s.cfg.rspAck] s.answer.1] })) ∧
    (s.state = .waitingResponseData → data.length = s.declLen →
      crc ≠ crc16 s.cfg.crcOrder (dataCovered s.cfg s.rspLenM1 data) →
      exec (.rspData data crc) s = .next (ended .checksumError [] s)) ∧
    (s.state = .waitingResponseData → data.length ≠ s.declLen →
      exec (.rspData data crc) s = .next (ended .unexpectedError [] s)) ∧
    (s.state ≠ .waitingResponseData → exec (.rspData data crc) s = .next s)

/-! ### The transport's calls -/

/-- R190, R54: what a write and a read do, for every answer, which is the next of the list or a free draw (entry 3). In the
contract bytes are moved in order; outside it the transport's state and the bytes a read returns are free (I8), and nothing
else changes. That the bytes sent before and the true capacity are kept then is the model's choice (entry 4). -/
def Obligations.TransportCalls : Prop :=
  ∀ s : State,
    let c := s.answer.1
    let a := s.answer.2
    (∀ (nw : Word) (as : List Word), s.answers = nw :: as → c = nw ∧ a = { s with answers := as }) ∧
    (s.answers = [] → c = Config.freeCount s.draws ∧ a = { s with draws := s.draws + 1 }) ∧
    (∀ bytes : List Byte,
      (0 ≤ c.toInt → c.toInt ≤ bytes.length → s.uartWrite bytes =
        (c, { a with trTx := s.trTx ++ bytes.take (bytes.length - c.toNat),
                     history := s.history ++ [.uartWrite bytes c] })) ∧
      (c.toInt < 0 ∨ bytes.length < c.toInt → ∃ rx tx rt tt sent d, s.uartWrite bytes =
        (c, { a with trRx := rx, trTx := tx, trRxThr := rt, trTxThr := tt, delivered := s.delivered ++ sent, draws := d,
                     history := s.history ++ [.uartWrite bytes c] }))) ∧
    (∀ n : Nat,
      (0 ≤ c.toInt → c.toInt ≤ n → c.toInt ≤ s.trRx.length → s.uartRead n =
        (c, s.trRx.take c.toNat, { a with trRx := s.trRx.drop c.toNat,
                                          history := s.history ++ [.uartRead n c (s.trRx.take c.toNat)] })) ∧
      (c.toInt < 0 ∨ n < c.toInt ∨ s.trRx.length < c.toInt → ∃ r rx tx rt tt sent d, r.length = (min c.toInt n).toNat ∧
        s.uartRead n = (c, r, { a with trRx := rx, trTx := tx, trRxThr := rt, trTxThr := tt, delivered := s.delivered ++ sent,
                                       draws := d, history := s.history ++ [.uartRead n c r] })))

/-! ### The transition rules, from the arbiter's turn to the state after the step -/

/-- R135, R137, R141: a notification of a fully free transmit buffer moves the three Sending states on, and the last
delivers `Success` with the response data. -/
def Obligations.DrainedBufferMovesOn : Prop :=
  ∀ (s : State) (rest : List Turn), s.Inv → s.cfg.txCap ≠ 0 → s.turns = .takeNotify :: rest → s.ntfPend = true →
    (s.cfg.txCap.toNat : Int) ≤ s.ntfTx.toInt →
    (s.state = .sendingOpcode →
      step s = .next (moved .waitingBeginAck 1 0 { s with turns := rest, ntfPend := false })) ∧
    (s.state = .sendingData →
      step s = .next (moved .waitingEndAck 1 0 { s with turns := rest, ntfPend := false })) ∧
    (s.state = .sendingResponseAck →
      step s = .next (ended .success (s.inbuf.take s.inlen) { s with turns := rest, ntfPend := false }))

/-- R136: `WaitingBeginAck`, on every answer of the transport and in the order of the rule's checks (R214): the read
count, the ack, the write count. `s₁` and `s₂` are the states the read and the write leave (`TransportCalls`). -/
def Obligations.BeginAckRule : Prop :=
  ∀ (s s₁ : State) (rest : List Turn) (cr : Word) (r : List Byte),
    s.Inv → s.state = .waitingBeginAck → s.turns = .takeNotify :: rest → s.ntfPend = true → 1 ≤ s.ntfRx.toInt →
    { s with turns := rest, ntfPend := false }.uartRead 1 = (cr, r, s₁) →
    (cr ≠ 1 → step s = .next (ended .unexpectedError [] s₁)) ∧
    (cr = 1 → ∃ b, r = [b] ∧
      (b ≠ s.cfg.ack → step s = .next (ended .protocolNack [] s₁)) ∧
      (b = s.cfg.ack → ∀ nw s₂, s₁.uartWrite (s.outbuf.take s.outlen) = (nw, s₂) →
        (nw ≠ 0 → step s = .next (ended .unexpectedError [] s₂)) ∧
        (nw = 0 → step s = .next (moved .sendingData 0 s.cfg.txCap s₂))))

/-- R138: `WaitingEndAck`, on every answer of the transport: the read count, the ack, then a write's `Success` or a
read's next state. `s₁` is the state the read leaves (`TransportCalls`). -/
def Obligations.EndAckRule : Prop :=
  ∀ (s s₁ : State) (rest : List Turn) (cr : Word) (r : List Byte),
    s.Inv → s.state = .waitingEndAck → s.turns = .takeNotify :: rest → s.ntfPend = true → 1 ≤ s.ntfRx.toInt →
    { s with turns := rest, ntfPend := false }.uartRead 1 = (cr, r, s₁) →
    (cr ≠ 1 → step s = .next (ended .unexpectedError [] s₁)) ∧
    (cr = 1 → ∃ b, r = [b] ∧
      (b ≠ s.cfg.ack → step s = .next (ended .protocolNack [] s₁)) ∧
      (b = s.cfg.ack → s.opcode = s.cfg.opWrite → step s = .next (ended .success [] s₁)) ∧
      (b = s.cfg.ack → s.opcode ≠ s.cfg.opWrite → step s = .next (moved .waitingResponseLength s.cfg.rspHdrLen 0 s₁)))

/-- R139: `WaitingResponseLength`, on every answer of the transport: the read count, the header checksum and length,
then the data's wait. The header has the format of R74. `s₁` is the state the read leaves (`TransportCalls`). -/
def Obligations.ResponseHeaderRule : Prop :=
  ∀ (s s₁ : State) (rest : List Turn) (cr : Word) (r : List Byte),
    s.Inv → SpecFormat s.cfg → s.state = .waitingResponseLength → s.turns = .takeNotify :: rest → s.ntfPend = true →
    3 ≤ s.ntfRx.toInt → { s with turns := rest, ntfPend := false }.uartRead 3 = (cr, r, s₁) →
    (cr ≠ 3 → step s = .next (ended .unexpectedError [] s₁)) ∧
    (cr = 3 → ∃ h0 c0 c1, r = [h0, c0, c1] ∧
      let good : Prop := c0.toNat + 256 * c1.toNat = (crc16 s.cfg.crcOrder [h0]).toNat
      let d := 2 * (h0.toNat + 1)
      (¬good ∨ s.cfg.maxPayload < 1 + d → step s = .next (ended .checksumError [] s₁)) ∧
      (good → 1 + d ≤ s.cfg.maxPayload → step s = .next
        (moved .waitingResponseData (BitVec.ofNat 16 (d + 2)) 0 { s₁ with rspLenM1 := h0, declLen := d })))

/-- R140: `WaitingResponseData`, on every answer of the transport: the read count, the data checksum over the bytes of R75,
the response-ack's write count. `s₁` and `s₂` are the states the read and the write leave (`TransportCalls`). -/
def Obligations.ResponseDataRule : Prop :=
  ∀ (s s₁ : State) (rest : List Turn) (cr : Word) (r : List Byte),
    s.Inv → SpecFormat s.cfg → s.state = .waitingResponseData → s.turns = .takeNotify :: rest → s.ntfPend = true →
    (s.declLen : Int) + 2 ≤ s.ntfRx.toInt →
    { s with turns := rest, ntfPend := false }.uartRead (s.declLen + 2) = (cr, r, s₁) →
    (cr ≠ BitVec.ofNat 32 (s.declLen + 2) → step s = .next (ended .unexpectedError [] s₁)) ∧
    (cr = BitVec.ofNat 32 (s.declLen + 2) → ∃ data c0 c1, r = data ++ [c0, c1] ∧ data.length = s.declLen ∧
      let good : Prop := c0.toNat + 256 * c1.toNat = (crc16 s.cfg.crcOrder (s.rspLenM1 :: data)).toNat
      let s' : State := { s₁ with inbuf := data ++ s.inbuf.drop data.length, inlen := s.declLen }
      (¬good → step s = .next (ended .checksumError [] s₁)) ∧
      (good → ∀ nw s₂, s'.uartWrite [s.cfg.rspAck] = (nw, s₂) →
        (nw ≠ 0 → step s = .next (ended .unexpectedError [] s₂)) ∧
        (nw = 0 → step s = .next (moved .sendingResponseAck 0 s.cfg.txCap s₂))))

/-- R8 and entry 7: the rules R139 and R140 under every other value of `P_RESP_FORMAT` and `P_RSP_HDR_LEN`. What such a value
means is the model's choice: the length unit and the coverage are the other readings of C7 and C6, a longer header has bytes
between its length byte and its checksum that nothing reads, and one too short for these parts ends the transaction. -/
def Obligations.OtherResponseFormats : Prop :=
  ∀ (s s₁ : State) (rest : List Turn) (cr : Word) (r : List Byte),
    s.Inv → ¬SpecFormat s.cfg → s.turns = .takeNotify :: rest → s.ntfPend = true →
    let n := s.cfg.rspHdrLen.toNat
    let len (h0 : Byte) : Nat :=
      match s.cfg.respFormat.lenUnit with | .word => 2 * (h0.toNat + 1) | .byte => h0.toNat + 1
    let covered (data : List Byte) : List Byte :=
      match s.cfg.respFormat.coverage with
      | .lengthAndData => s.rspLenM1 :: data
      | .fullFrame => [s.rspLenM1, (crc16 s.cfg.crcOrder [s.rspLenM1]).extractLsb' 0 8,
          (crc16 s.cfg.crcOrder [s.rspLenM1]).extractLsb' 8 8] ++ data
    (s.state = .waitingResponseLength → n ≠ 0 → (n : Int) ≤ s.ntfRx.toInt →
      { s with turns := rest, ntfPend := false }.uartRead n = (cr, r, s₁) →
      (cr ≠ BitVec.ofNat 32 n ∨ n < 3 → step s = .next (ended .unexpectedError [] s₁)) ∧
      (cr = BitVec.ofNat 32 n → 3 ≤ n → ∃ h0 fill c0 c1, r = h0 :: (fill ++ [c0, c1]) ∧ fill.length + 3 = n ∧
        let good : Prop := c0.toNat + 256 * c1.toNat = (crc16 s.cfg.crcOrder [h0]).toNat
        (¬good ∨ s.cfg.maxPayload < 1 + len h0 → step s = .next (ended .checksumError [] s₁)) ∧
        (good → 1 + len h0 ≤ s.cfg.maxPayload → step s = .next
          (moved .waitingResponseData (BitVec.ofNat 16 (len h0 + 2)) 0 { s₁ with rspLenM1 := h0, declLen := len h0 })))) ∧
    (s.state = .waitingResponseData → (s.declLen : Int) + 2 ≤ s.ntfRx.toInt →
      { s with turns := rest, ntfPend := false }.uartRead (s.declLen + 2) = (cr, r, s₁) →
      (cr ≠ BitVec.ofNat 32 (s.declLen + 2) → step s = .next (ended .unexpectedError [] s₁)) ∧
      (cr = BitVec.ofNat 32 (s.declLen + 2) → ∃ data c0 c1, r = data ++ [c0, c1] ∧ data.length = s.declLen ∧
        let good : Prop := c0.toNat + 256 * c1.toNat = (crc16 s.cfg.crcOrder (covered data)).toNat
        let s' : State := { s₁ with inbuf := data ++ s.inbuf.drop data.length, inlen := s.declLen }
        (¬good → step s = .next (ended .checksumError [] s₁)) ∧
        (good → ∀ nw s₂, s'.uartWrite [s.cfg.rspAck] = (nw, s₂) →
          (nw ≠ 0 → step s = .next (ended .unexpectedError [] s₂)) ∧
          (nw = 0 → step s = .next (moved .sendingResponseAck 0 s.cfg.txCap s₂)))))

/-- R143: a fire with the current generation while the timer is armed ends the transaction with `Timeout`; every other
fire is a no-op but for the latch it clears (R193). -/
def Obligations.TimerFireRule : Prop :=
  ∀ (s : State) (rest : List Turn), s.turns = .takeTimer :: rest → s.tmfPend = true →
    (s.tmrArmed = true → s.tmfGen = s.tmrGen →
      step s = .next (ended .timeout [] { s with turns := rest, tmfPend := false })) ∧
    (¬(s.tmrArmed = true ∧ s.tmfGen = s.tmrGen) → step s = .next { s with turns := rest, tmfPend := false })

/-- R172: a cancel of the tag in flight discards unsent bytes and completes with `Timeout`; every other cancel is a no-op
but for the latch it clears (R194). Which unsent bytes are dropped is free, but no byte is added or moved (R200, R201). -/
def Obligations.CancelRule : Prop :=
  ∀ (s : State) (rest : List Turn), s.Inv → s.turns = .takeCancel :: rest → s.canPend = true →
    (s.state ≠ .ready → s.canTag = s.tag →
      ∃ tx d, tx.Sublist s.trTx ∧ step s = .next (ended .timeout []
        { s with turns := rest, canPend := false, trTx := tx, draws := d,
                 history := s.history ++ [.uartDiscardTx] })) ∧
    (s.state = .ready ∨ s.canTag ≠ s.tag → step s = .next { s with turns := rest, canPend := false })

/-- R142: the explicitly defined no-ops: an event below its threshold or of a disabled direction, a stale fire, a cancel
of no transaction in flight. Nothing changes but the latch the step consumed. -/
def Obligations.DefinedNoOps : Prop :=
  ∀ (s : State),
    (∀ n : Word, s.rxThr = 0 ∨ n.toInt < (s.rxThr.toNat : Int) → s.onEvent (.rxAvailable n) = .done s) ∧
    (∀ n : Word, s.txThr = 0 ∨ n.toInt < (s.txThr.toNat : Int) → s.onEvent (.txFree n) = .done s) ∧
    (∀ rest, s.turns = .takeNotify :: rest → s.ntfPend = true → (s.rxThr = 0 ∨ s.ntfRx.toInt < (s.rxThr.toNat : Int)) →
      (s.txThr = 0 ∨ s.ntfTx.toInt < (s.txThr.toNat : Int)) →
      step s = .next { s with turns := rest, ntfPend := false }) ∧
    (∀ rest, s.turns = .takeTimer :: rest → s.tmfPend = true → (s.tmrArmed = false ∨ s.tmfGen ≠ s.tmrGen) →
      step s = .next { s with turns := rest, tmfPend := false }) ∧
    (∀ rest, s.turns = .takeCancel :: rest → s.canPend = true → (s.state = .ready ∨ s.canTag ≠ s.tag) →
      step s = .next { s with turns := rest, canPend := false })

/-- R250: a body taken in part ends the transaction, but the bytes the transport took stay in its transmit buffer. -/
def Obligations.PartialBodyStaysBehind : Prop :=
  ∀ s : State, s.Inv → s.state = .waitingBeginAck → 0 < s.answer.1.toInt → s.answer.1.toInt ≤ (s.outlen : Int) →
    exec .ackAccept s = .next (ended .unexpectedError []
      { s.answer.2 with trTx := s.trTx ++ s.outbuf.take (s.outlen - s.answer.1.toNat),
                        history := s.history ++ [.uartWrite (s.outbuf.take s.outlen) s.answer.1] })

/-- R197, R192: for a transaction in flight, in either direction, where the threshold the transport was given is met and a
notification with its current counts is latched, that notification is the event its state waits for, and a read of the
expected unit finds its bytes. -/
def Obligations.DueNotificationIsTheEvent : Prop :=
  ∀ s : State, s.Inv → s.Programmed → s.state ≠ .ready →
    (s.rxDue → s.ntfRx.toInt = (s.trRx.length : Int) →
      s.notifyEvent = some (.rxAvailable s.ntfRx) ∧ ∃ e, s.expects = some e ∧ e.length ≤ s.trRx.length) ∧
    (s.txDue → s.ntfTx.toInt = s.txFreeCount → s.notifyEvent = some (.txFree s.ntfTx) ∧
      (s.state = .sendingOpcode ∨ s.state = .sendingData ∨ s.state = .sendingResponseAck))

/-- R198, R246: under A-LEVEL no awaited event is missed. Where a step leaves the block in a state whose condition is already
met when its thresholds are set, or makes the condition true, the run goes on to a step that latches the event the state
waits for, unless the block leaves that state first. -/
def Obligations.AwaitedEventIsNotified : Prop :=
  ∀ s t u : State, ∀ j, s.Inv → s.Programmed → s.ALevel → Reaches j s t → step t = .next u → u.state ≠ .ready → u.due →
    ¬t.due ∨ SetsThreshold t u →
    ∃ k v, Reaches k u v ∧ (v.state ≠ u.state ∨
      ∃ w, step v = .next w ∧ w.state = u.state ∧ w.ntfPend = true ∧ w.notifyEvent = w.awaitedEvent ∧ w.due)

/-- R145 (b), R199: under the timer's fairness every transaction in flight comes to an end: some step leaves `Ready` behind
it, and unless that step is a reset its last output is the completion record of the transaction's tag. -/
def Obligations.EveryTransactionEnds : Prop :=
  ∀ s : State, s.Inv → s.TimerFair → s.state ≠ .ready →
    ∃ k t u, Reaches k s t ∧ t.state ≠ .ready ∧ t.tag = s.tag ∧ step t = .next u ∧ u.state = .ready ∧
      (t.turns.head? ≠ some .reset → ∃ o p, u.history.getLast? = some (.complete s.tag o p))

/-- R254, first hazard (and I17): where the transport keeps to a capacity of at most `P_TX_CAP`, and `P_TX_CAP < 11`, a write's
body is never taken whole: no write gets past `WaitingBeginAck`, none ends with `Success`, and its body write ends it with
`UnexpectedError`. The two opcodes differ, as those of R8 do. That the transport keeps to its capacity is the premise of
entry 23. -/
def Obligations.SmallTransmitBufferFailsWrites : Prop :=
  ∀ (s t u : State) (j : Nat), s.Inv → s.Capacity → s.cfg.opWrite ≠ s.cfg.opRead → s.trCap ≤ s.cfg.txCap.toNat →
    s.cfg.txCap.toNat < 11 → s.state = .ready ∨ s.state = .sendingOpcode ∨ s.state = .waitingBeginAck →
    Reaches j s t → t.state ≠ .ready → t.opcode = s.cfg.opWrite → step t = .next u →
    (t.state = .sendingOpcode ∨ t.state = .waitingBeginAck) ∧
    (∀ out tag o p, u.history = t.history ++ out → OutEvent.complete tag o p ∈ out → o ≠ .success) ∧
    (∀ rest s₁, t.state = .waitingBeginAck → t.turns = .takeNotify :: rest → t.ntfPend = true → 1 ≤ t.ntfRx.toInt →
      { t with turns := rest, ntfPend := false }.uartRead 1 = (1, [t.cfg.ack], s₁) →
      u = ended .unexpectedError [] (s₁.uartWrite (t.outbuf.take t.outlen)).2)

/-- R254, third hazard: where the transport keeps to a true capacity below `P_TX_CAP`, no notification is a `TxFree` that
meets the threshold, no transaction gets past `SendingOpcode`, and every one ends with `Timeout`; under the timer's fairness
(R199) it does end. That the transport keeps to its capacity is the premise of entry 23. -/
def Obligations.LargeTxCapTimesOut : Prop :=
  ∀ (s t : State) (j : Nat), s.Inv → s.Capacity → s.trCap < s.cfg.txCap.toNat →
    s.state = .ready ∨ s.state = .sendingOpcode → Reaches j s t →
    (t.state = .ready ∨ t.state = .sendingOpcode) ∧
    (t.ntfPend = true → t.notifyEvent = none) ∧
    (∀ u out tag o p, step t = .next u → u.history = t.history ++ out → OutEvent.complete tag o p ∈ out → o = .timeout) ∧
    (s.TimerFair → t.state = .sendingOpcode → ∃ k a b, Reaches k t a ∧ a.state = .sendingOpcode ∧ a.tag = t.tag ∧
      step a = .next b ∧ b.state = .ready ∧
      (a.turns.head? ≠ some .reset → b.history.getLast? = some (.complete t.tag .timeout [])))

/-- R222, R142, R240: with no turn to take the block waits with all its state (entry 2); in `Ready` no latch's step changes
anything but that latch. That a turn given to a latch with nothing pending passes is the model's choice (entry 9). -/
def Obligations.BlockWaitsInReady : Prop :=
  ∀ s : State,
    (s.turns = [] → step s = .next s) ∧
    (∀ rest, s.Inv → s.state = .ready → s.turns = .takeNotify :: rest →
      step s = .next { s with turns := rest, ntfPend := false }) ∧
    (∀ rest, s.Inv → s.state = .ready → s.turns = .takeTimer :: rest →
      step s = .next { s with turns := rest, tmfPend := false }) ∧
    (∀ rest, s.Inv → s.state = .ready → s.turns = .takeCancel :: rest →
      step s = .next { s with turns := rest, canPend := false })
end

