-- ==== Sys2Proof/Laws/Decode.lean ====
section
/-! SUPPORT. The byte-order helpers undo each other (20_memory.md R50, R52), and the fields of a record are read back from their places (30_encoding.md R81). -/

namespace Sys2Proof

/-- A 16-bit field is its two bytes joined again. -/
@[simp] theorem join16_lo8_hi8 (v : Half) : join16 (lo8 v) (hi8 v) = v := by
  apply BitVec.eq_of_getLsbD_eq
  intro i hi
  simp only [join16, lo8, hi8, BitVec.getLsbD_append, BitVec.getLsbD_extractLsb']
  split
  · simp; omega
  · rw [show 8 + (i - 8) = i by omega]; simp; omega

/-- A 32-bit field is its four bytes joined again. -/
@[simp] theorem join32_byte32 (d : Word) : join32 (byte32 d 0) (byte32 d 1) (byte32 d 2) (byte32 d 3) = d := by
  apply BitVec.eq_of_getLsbD_eq
  intro i hi
  simp only [join32, byte32, BitVec.getLsbD_append, BitVec.getLsbD_extractLsb']
  split
  · simp; omega
  · split
    · rw [show 8 * 1 + (i - 8) = i by omega]; simp; omega
    · split
      · rw [show 8 * 2 + (i - 8 - 8) = i by omega]; simp; omega
      · rw [show 8 * 3 + (i - 8 - 8 - 8) = i by omega]; simp; omega

/-- A field below the seam of two appended parts is read from the low part. -/
theorem extract_append_low {n m N : Nat} (h : n + m = N) (x : BitVec n) (y : BitVec m) (k w : Nat) (hk : k + w ≤ m) :
    (BitVec.cast h (x ++ y)).extractLsb' k w = y.extractLsb' k w := by
  subst h
  apply BitVec.eq_of_getLsbD_eq
  intro i hi
  simp only [BitVec.getLsbD_extractLsb', BitVec.getLsbD_append, BitVec.cast_eq]
  rw [if_pos (by omega)]

/-- A field above the seam is read from the high part. -/
theorem extract_append_high {n m N : Nat} (h : n + m = N) (x : BitVec n) (y : BitVec m) (k w : Nat) (hk : m ≤ k) :
    (BitVec.cast h (x ++ y)).extractLsb' k w = x.extractLsb' (k - m) w := by
  subst h
  apply BitVec.eq_of_getLsbD_eq
  intro i hi
  simp only [BitVec.getLsbD_extractLsb', BitVec.getLsbD_append, BitVec.cast_eq]
  rw [if_neg (by omega), show k + i - m = k - m + i by omega]

/-- A whole word extracted is the word. -/
theorem extract_whole {n : Nat} (x : BitVec n) : x.extractLsb' 0 n = x := by
  apply BitVec.eq_of_getLsbD_eq
  intro i hi
  simp [hi]

/-- The KIND of a record is its low four bits (R81). -/
theorem record_kind (fields : BitVec 64) (kind : BitVec 4) : (fields ++ kind : Record).extractLsb' 0 4 = kind :=
  (extract_append_low (n := 64) (m := 4) rfl _ _ 0 4 (by omega)).trans (extract_whole _)

/-- Every other field of a record stands above its KIND (R81). -/
theorem record_field (fields : BitVec 64) (kind : BitVec 4) (k w : Nat) (h : 4 ≤ k) :
    (fields ++ kind : Record).extractLsb' k w = fields.extractLsb' (k - 4) w :=
  extract_append_high (n := 64) (m := 4) rfl _ _ k w h

end Sys2Proof
end

