-- ==== Sys2Proof/Laws/State.lean ====
section
/-! SUPPORT. One lemma per field per update of State, true by rfl, so that no later proof unfolds a record update. -/

namespace Sys2Proof.Machine

variable (s : State)

/-! ### State.emit -/

@[simp] theorem State.emit_cfg (e : OutEvent) : (s.emit e).cfg = s.cfg := rfl
@[simp] theorem State.emit_state (e : OutEvent) : (s.emit e).state = s.state := rfl
@[simp] theorem State.emit_opcode (e : OutEvent) : (s.emit e).opcode = s.opcode := rfl
@[simp] theorem State.emit_outbuf (e : OutEvent) : (s.emit e).outbuf = s.outbuf := rfl
@[simp] theorem State.emit_outlen (e : OutEvent) : (s.emit e).outlen = s.outlen := rfl
@[simp] theorem State.emit_inbuf (e : OutEvent) : (s.emit e).inbuf = s.inbuf := rfl
@[simp] theorem State.emit_inlen (e : OutEvent) : (s.emit e).inlen = s.inlen := rfl
@[simp] theorem State.emit_rspLenM1 (e : OutEvent) : (s.emit e).rspLenM1 = s.rspLenM1 := rfl
@[simp] theorem State.emit_declLen (e : OutEvent) : (s.emit e).declLen = s.declLen := rfl
@[simp] theorem State.emit_tag (e : OutEvent) : (s.emit e).tag = s.tag := rfl
@[simp] theorem State.emit_nextTag (e : OutEvent) : (s.emit e).nextTag = s.nextTag := rfl
@[simp] theorem State.emit_rxThr (e : OutEvent) : (s.emit e).rxThr = s.rxThr := rfl
@[simp] theorem State.emit_txThr (e : OutEvent) : (s.emit e).txThr = s.txThr := rfl
@[simp] theorem State.emit_tmrArmed (e : OutEvent) : (s.emit e).tmrArmed = s.tmrArmed := rfl
@[simp] theorem State.emit_tmrGen (e : OutEvent) : (s.emit e).tmrGen = s.tmrGen := rfl
@[simp] theorem State.emit_ntfPend (e : OutEvent) : (s.emit e).ntfPend = s.ntfPend := rfl
@[simp] theorem State.emit_ntfRx (e : OutEvent) : (s.emit e).ntfRx = s.ntfRx := rfl
@[simp] theorem State.emit_ntfTx (e : OutEvent) : (s.emit e).ntfTx = s.ntfTx := rfl
@[simp] theorem State.emit_tmfPend (e : OutEvent) : (s.emit e).tmfPend = s.tmfPend := rfl
@[simp] theorem State.emit_tmfGen (e : OutEvent) : (s.emit e).tmfGen = s.tmfGen := rfl
@[simp] theorem State.emit_canPend (e : OutEvent) : (s.emit e).canPend = s.canPend := rfl
@[simp] theorem State.emit_canTag (e : OutEvent) : (s.emit e).canTag = s.canTag := rfl
@[simp] theorem State.emit_trRx (e : OutEvent) : (s.emit e).trRx = s.trRx := rfl
@[simp] theorem State.emit_trTx (e : OutEvent) : (s.emit e).trTx = s.trTx := rfl
@[simp] theorem State.emit_trCap (e : OutEvent) : (s.emit e).trCap = s.trCap := rfl
@[simp] theorem State.emit_trRxThr (e : OutEvent) : (s.emit e).trRxThr = s.trRxThr := rfl
@[simp] theorem State.emit_trTxThr (e : OutEvent) : (s.emit e).trTxThr = s.trTxThr := rfl
@[simp] theorem State.emit_delivered (e : OutEvent) : (s.emit e).delivered = s.delivered := rfl
@[simp] theorem State.emit_wait (e : OutEvent) : (s.emit e).wait = s.wait := rfl
@[simp] theorem State.emit_history (e : OutEvent) : (s.emit e).history = s.history ++ [e] := rfl
@[simp] theorem State.emit_turns (e : OutEvent) : (s.emit e).turns = s.turns := rfl
@[simp] theorem State.emit_answers (e : OutEvent) : (s.emit e).answers = s.answers := rfl
@[simp] theorem State.emit_draws (e : OutEvent) : (s.emit e).draws = s.draws := rfl

/-! ### State.setThreshold -/

@[simp] theorem State.setThreshold_cfg (rx tx : Half) : (s.setThreshold rx tx).cfg = s.cfg := rfl
@[simp] theorem State.setThreshold_state (rx tx : Half) : (s.setThreshold rx tx).state = s.state := rfl
@[simp] theorem State.setThreshold_opcode (rx tx : Half) : (s.setThreshold rx tx).opcode = s.opcode := rfl
@[simp] theorem State.setThreshold_outbuf (rx tx : Half) : (s.setThreshold rx tx).outbuf = s.outbuf := rfl
@[simp] theorem State.setThreshold_outlen (rx tx : Half) : (s.setThreshold rx tx).outlen = s.outlen := rfl
@[simp] theorem State.setThreshold_inbuf (rx tx : Half) : (s.setThreshold rx tx).inbuf = s.inbuf := rfl
@[simp] theorem State.setThreshold_inlen (rx tx : Half) : (s.setThreshold rx tx).inlen = s.inlen := rfl
@[simp] theorem State.setThreshold_rspLenM1 (rx tx : Half) : (s.setThreshold rx tx).rspLenM1 = s.rspLenM1 := rfl
@[simp] theorem State.setThreshold_declLen (rx tx : Half) : (s.setThreshold rx tx).declLen = s.declLen := rfl
@[simp] theorem State.setThreshold_tag (rx tx : Half) : (s.setThreshold rx tx).tag = s.tag := rfl
@[simp] theorem State.setThreshold_nextTag (rx tx : Half) : (s.setThreshold rx tx).nextTag = s.nextTag := rfl
@[simp] theorem State.setThreshold_rxThr (rx tx : Half) : (s.setThreshold rx tx).rxThr = rx := rfl
@[simp] theorem State.setThreshold_txThr (rx tx : Half) : (s.setThreshold rx tx).txThr = tx := rfl
@[simp] theorem State.setThreshold_tmrArmed (rx tx : Half) : (s.setThreshold rx tx).tmrArmed = s.tmrArmed := rfl
@[simp] theorem State.setThreshold_tmrGen (rx tx : Half) : (s.setThreshold rx tx).tmrGen = s.tmrGen := rfl
@[simp] theorem State.setThreshold_ntfPend (rx tx : Half) : (s.setThreshold rx tx).ntfPend = s.ntfPend := rfl
@[simp] theorem State.setThreshold_ntfRx (rx tx : Half) : (s.setThreshold rx tx).ntfRx = s.ntfRx := rfl
@[simp] theorem State.setThreshold_ntfTx (rx tx : Half) : (s.setThreshold rx tx).ntfTx = s.ntfTx := rfl
@[simp] theorem State.setThreshold_tmfPend (rx tx : Half) : (s.setThreshold rx tx).tmfPend = s.tmfPend := rfl
@[simp] theorem State.setThreshold_tmfGen (rx tx : Half) : (s.setThreshold rx tx).tmfGen = s.tmfGen := rfl
@[simp] theorem State.setThreshold_canPend (rx tx : Half) : (s.setThreshold rx tx).canPend = s.canPend := rfl
@[simp] theorem State.setThreshold_canTag (rx tx : Half) : (s.setThreshold rx tx).canTag = s.canTag := rfl
@[simp] theorem State.setThreshold_trRx (rx tx : Half) : (s.setThreshold rx tx).trRx = s.trRx := rfl
@[simp] theorem State.setThreshold_trTx (rx tx : Half) : (s.setThreshold rx tx).trTx = s.trTx := rfl
@[simp] theorem State.setThreshold_trCap (rx tx : Half) : (s.setThreshold rx tx).trCap = s.trCap := rfl
@[simp] theorem State.setThreshold_trRxThr (rx tx : Half) : (s.setThreshold rx tx).trRxThr = rx := rfl
@[simp] theorem State.setThreshold_trTxThr (rx tx : Half) : (s.setThreshold rx tx).trTxThr = tx := rfl
@[simp] theorem State.setThreshold_delivered (rx tx : Half) : (s.setThreshold rx tx).delivered = s.delivered := rfl
@[simp] theorem State.setThreshold_wait (rx tx : Half) : (s.setThreshold rx tx).wait = s.wait := rfl
@[simp] theorem State.setThreshold_history (rx tx : Half) : (s.setThreshold rx tx).history = s.history ++ [.uartSetThreshold rx tx] := rfl
@[simp] theorem State.setThreshold_turns (rx tx : Half) : (s.setThreshold rx tx).turns = s.turns := rfl
@[simp] theorem State.setThreshold_answers (rx tx : Half) : (s.setThreshold rx tx).answers = s.answers := rfl
@[simp] theorem State.setThreshold_draws (rx tx : Half) : (s.setThreshold rx tx).draws = s.draws := rfl

/-! ### State.arm -/

@[simp] theorem State.arm_cfg (st : TransactionState) : (s.arm st).cfg = s.cfg := rfl
@[simp] theorem State.arm_state (st : TransactionState) : (s.arm st).state = s.state := rfl
@[simp] theorem State.arm_opcode (st : TransactionState) : (s.arm st).opcode = s.opcode := rfl
@[simp] theorem State.arm_outbuf (st : TransactionState) : (s.arm st).outbuf = s.outbuf := rfl
@[simp] theorem State.arm_outlen (st : TransactionState) : (s.arm st).outlen = s.outlen := rfl
@[simp] theorem State.arm_inbuf (st : TransactionState) : (s.arm st).inbuf = s.inbuf := rfl
@[simp] theorem State.arm_inlen (st : TransactionState) : (s.arm st).inlen = s.inlen := rfl
@[simp] theorem State.arm_rspLenM1 (st : TransactionState) : (s.arm st).rspLenM1 = s.rspLenM1 := rfl
@[simp] theorem State.arm_declLen (st : TransactionState) : (s.arm st).declLen = s.declLen := rfl
@[simp] theorem State.arm_tag (st : TransactionState) : (s.arm st).tag = s.tag := rfl
@[simp] theorem State.arm_nextTag (st : TransactionState) : (s.arm st).nextTag = s.nextTag := rfl
@[simp] theorem State.arm_rxThr (st : TransactionState) : (s.arm st).rxThr = s.rxThr := rfl
@[simp] theorem State.arm_txThr (st : TransactionState) : (s.arm st).txThr = s.txThr := rfl
@[simp] theorem State.arm_tmrArmed (st : TransactionState) : (s.arm st).tmrArmed = true := rfl
@[simp] theorem State.arm_tmrGen (st : TransactionState) : (s.arm st).tmrGen = s.tmrGen + 1 := rfl
@[simp] theorem State.arm_ntfPend (st : TransactionState) : (s.arm st).ntfPend = s.ntfPend := rfl
@[simp] theorem State.arm_ntfRx (st : TransactionState) : (s.arm st).ntfRx = s.ntfRx := rfl
@[simp] theorem State.arm_ntfTx (st : TransactionState) : (s.arm st).ntfTx = s.ntfTx := rfl
@[simp] theorem State.arm_tmfPend (st : TransactionState) : (s.arm st).tmfPend = s.tmfPend := rfl
@[simp] theorem State.arm_tmfGen (st : TransactionState) : (s.arm st).tmfGen = s.tmfGen := rfl
@[simp] theorem State.arm_canPend (st : TransactionState) : (s.arm st).canPend = s.canPend := rfl
@[simp] theorem State.arm_canTag (st : TransactionState) : (s.arm st).canTag = s.canTag := rfl
@[simp] theorem State.arm_trRx (st : TransactionState) : (s.arm st).trRx = s.trRx := rfl
@[simp] theorem State.arm_trTx (st : TransactionState) : (s.arm st).trTx = s.trTx := rfl
@[simp] theorem State.arm_trCap (st : TransactionState) : (s.arm st).trCap = s.trCap := rfl
@[simp] theorem State.arm_trRxThr (st : TransactionState) : (s.arm st).trRxThr = s.trRxThr := rfl
@[simp] theorem State.arm_trTxThr (st : TransactionState) : (s.arm st).trTxThr = s.trTxThr := rfl
@[simp] theorem State.arm_delivered (st : TransactionState) : (s.arm st).delivered = s.delivered := rfl
@[simp] theorem State.arm_wait (st : TransactionState) : (s.arm st).wait = some ⟨s.tmrGen + 1, st, s.cfg.tWait.of st⟩ := rfl
@[simp] theorem State.arm_history (st : TransactionState) : (s.arm st).history = s.history ++ [.timerArm (s.tmrGen + 1) st] := rfl
@[simp] theorem State.arm_turns (st : TransactionState) : (s.arm st).turns = s.turns := rfl
@[simp] theorem State.arm_answers (st : TransactionState) : (s.arm st).answers = s.answers := rfl
@[simp] theorem State.arm_draws (st : TransactionState) : (s.arm st).draws = s.draws := rfl

/-! ### State.clearTransaction -/

@[simp] theorem State.clearTransaction_cfg : s.clearTransaction.cfg = s.cfg := rfl
@[simp] theorem State.clearTransaction_state : s.clearTransaction.state = s.state := rfl
@[simp] theorem State.clearTransaction_opcode : s.clearTransaction.opcode = 0x00 := rfl
@[simp] theorem State.clearTransaction_outbuf : s.clearTransaction.outbuf = cleared s.cfg := rfl
@[simp] theorem State.clearTransaction_outlen : s.clearTransaction.outlen = 0 := rfl
@[simp] theorem State.clearTransaction_inbuf : s.clearTransaction.inbuf = cleared s.cfg := rfl
@[simp] theorem State.clearTransaction_inlen : s.clearTransaction.inlen = 0 := rfl
@[simp] theorem State.clearTransaction_rspLenM1 : s.clearTransaction.rspLenM1 = 0 := rfl
@[simp] theorem State.clearTransaction_declLen : s.clearTransaction.declLen = 0 := rfl
@[simp] theorem State.clearTransaction_tag : s.clearTransaction.tag = s.tag := rfl
@[simp] theorem State.clearTransaction_nextTag : s.clearTransaction.nextTag = s.nextTag := rfl
@[simp] theorem State.clearTransaction_rxThr : s.clearTransaction.rxThr = s.rxThr := rfl
@[simp] theorem State.clearTransaction_txThr : s.clearTransaction.txThr = s.txThr := rfl
@[simp] theorem State.clearTransaction_tmrArmed : s.clearTransaction.tmrArmed = s.tmrArmed := rfl
@[simp] theorem State.clearTransaction_tmrGen : s.clearTransaction.tmrGen = s.tmrGen := rfl
@[simp] theorem State.clearTransaction_ntfPend : s.clearTransaction.ntfPend = s.ntfPend := rfl
@[simp] theorem State.clearTransaction_ntfRx : s.clearTransaction.ntfRx = s.ntfRx := rfl
@[simp] theorem State.clearTransaction_ntfTx : s.clearTransaction.ntfTx = s.ntfTx := rfl
@[simp] theorem State.clearTransaction_tmfPend : s.clearTransaction.tmfPend = s.tmfPend := rfl
@[simp] theorem State.clearTransaction_tmfGen : s.clearTransaction.tmfGen = s.tmfGen := rfl
@[simp] theorem State.clearTransaction_canPend : s.clearTransaction.canPend = s.canPend := rfl
@[simp] theorem State.clearTransaction_canTag : s.clearTransaction.canTag = s.canTag := rfl
@[simp] theorem State.clearTransaction_trRx : s.clearTransaction.trRx = s.trRx := rfl
@[simp] theorem State.clearTransaction_trTx : s.clearTransaction.trTx = s.trTx := rfl
@[simp] theorem State.clearTransaction_trCap : s.clearTransaction.trCap = s.trCap := rfl
@[simp] theorem State.clearTransaction_trRxThr : s.clearTransaction.trRxThr = s.trRxThr := rfl
@[simp] theorem State.clearTransaction_trTxThr : s.clearTransaction.trTxThr = s.trTxThr := rfl
@[simp] theorem State.clearTransaction_delivered : s.clearTransaction.delivered = s.delivered := rfl
@[simp] theorem State.clearTransaction_wait : s.clearTransaction.wait = s.wait := rfl
@[simp] theorem State.clearTransaction_history : s.clearTransaction.history = s.history := rfl
@[simp] theorem State.clearTransaction_turns : s.clearTransaction.turns = s.turns := rfl
@[simp] theorem State.clearTransaction_answers : s.clearTransaction.answers = s.answers := rfl
@[simp] theorem State.clearTransaction_draws : s.clearTransaction.draws = s.draws := rfl

/-! ### State.loadRequest -/

@[simp] theorem State.loadRequest_cfg (q : Request) : (s.loadRequest q).cfg = s.cfg := rfl
@[simp] theorem State.loadRequest_state (q : Request) : (s.loadRequest q).state = s.state := rfl
@[simp] theorem State.loadRequest_opcode (q : Request) : (s.loadRequest q).opcode = q.opcode := rfl
@[simp] theorem State.loadRequest_outbuf (q : Request) : (s.loadRequest q).outbuf = overwrite s.outbuf q.body := rfl
@[simp] theorem State.loadRequest_outlen (q : Request) : (s.loadRequest q).outlen = q.body.length := rfl
@[simp] theorem State.loadRequest_inbuf (q : Request) : (s.loadRequest q).inbuf = s.inbuf := rfl
@[simp] theorem State.loadRequest_inlen (q : Request) : (s.loadRequest q).inlen = s.inlen := rfl
@[simp] theorem State.loadRequest_rspLenM1 (q : Request) : (s.loadRequest q).rspLenM1 = s.rspLenM1 := rfl
@[simp] theorem State.loadRequest_declLen (q : Request) : (s.loadRequest q).declLen = s.declLen := rfl
@[simp] theorem State.loadRequest_tag (q : Request) : (s.loadRequest q).tag = s.nextTag := rfl
@[simp] theorem State.loadRequest_nextTag (q : Request) : (s.loadRequest q).nextTag = s.nextTag + 1 := rfl
@[simp] theorem State.loadRequest_rxThr (q : Request) : (s.loadRequest q).rxThr = s.rxThr := rfl
@[simp] theorem State.loadRequest_txThr (q : Request) : (s.loadRequest q).txThr = s.txThr := rfl
@[simp] theorem State.loadRequest_tmrArmed (q : Request) : (s.loadRequest q).tmrArmed = s.tmrArmed := rfl
@[simp] theorem State.loadRequest_tmrGen (q : Request) : (s.loadRequest q).tmrGen = s.tmrGen := rfl
@[simp] theorem State.loadRequest_ntfPend (q : Request) : (s.loadRequest q).ntfPend = s.ntfPend := rfl
@[simp] theorem State.loadRequest_ntfRx (q : Request) : (s.loadRequest q).ntfRx = s.ntfRx := rfl
@[simp] theorem State.loadRequest_ntfTx (q : Request) : (s.loadRequest q).ntfTx = s.ntfTx := rfl
@[simp] theorem State.loadRequest_tmfPend (q : Request) : (s.loadRequest q).tmfPend = s.tmfPend := rfl
@[simp] theorem State.loadRequest_tmfGen (q : Request) : (s.loadRequest q).tmfGen = s.tmfGen := rfl
@[simp] theorem State.loadRequest_canPend (q : Request) : (s.loadRequest q).canPend = s.canPend := rfl
@[simp] theorem State.loadRequest_canTag (q : Request) : (s.loadRequest q).canTag = s.canTag := rfl
@[simp] theorem State.loadRequest_trRx (q : Request) : (s.loadRequest q).trRx = s.trRx := rfl
@[simp] theorem State.loadRequest_trTx (q : Request) : (s.loadRequest q).trTx = s.trTx := rfl
@[simp] theorem State.loadRequest_trCap (q : Request) : (s.loadRequest q).trCap = s.trCap := rfl
@[simp] theorem State.loadRequest_trRxThr (q : Request) : (s.loadRequest q).trRxThr = s.trRxThr := rfl
@[simp] theorem State.loadRequest_trTxThr (q : Request) : (s.loadRequest q).trTxThr = s.trTxThr := rfl
@[simp] theorem State.loadRequest_delivered (q : Request) : (s.loadRequest q).delivered = s.delivered := rfl
@[simp] theorem State.loadRequest_wait (q : Request) : (s.loadRequest q).wait = s.wait := rfl
@[simp] theorem State.loadRequest_history (q : Request) : (s.loadRequest q).history = s.history := rfl
@[simp] theorem State.loadRequest_turns (q : Request) : (s.loadRequest q).turns = s.turns := rfl
@[simp] theorem State.loadRequest_answers (q : Request) : (s.loadRequest q).answers = s.answers := rfl
@[simp] theorem State.loadRequest_draws (q : Request) : (s.loadRequest q).draws = s.draws := rfl

/-! ### State.loadResponse -/

@[simp] theorem State.loadResponse_cfg (d : List Byte) : (s.loadResponse d).cfg = s.cfg := rfl
@[simp] theorem State.loadResponse_state (d : List Byte) : (s.loadResponse d).state = s.state := rfl
@[simp] theorem State.loadResponse_opcode (d : List Byte) : (s.loadResponse d).opcode = s.opcode := rfl
@[simp] theorem State.loadResponse_outbuf (d : List Byte) : (s.loadResponse d).outbuf = s.outbuf := rfl
@[simp] theorem State.loadResponse_outlen (d : List Byte) : (s.loadResponse d).outlen = s.outlen := rfl
@[simp] theorem State.loadResponse_inbuf (d : List Byte) : (s.loadResponse d).inbuf = overwrite s.inbuf d := rfl
@[simp] theorem State.loadResponse_inlen (d : List Byte) : (s.loadResponse d).inlen = s.declLen := rfl
@[simp] theorem State.loadResponse_rspLenM1 (d : List Byte) : (s.loadResponse d).rspLenM1 = s.rspLenM1 := rfl
@[simp] theorem State.loadResponse_declLen (d : List Byte) : (s.loadResponse d).declLen = s.declLen := rfl
@[simp] theorem State.loadResponse_tag (d : List Byte) : (s.loadResponse d).tag = s.tag := rfl
@[simp] theorem State.loadResponse_nextTag (d : List Byte) : (s.loadResponse d).nextTag = s.nextTag := rfl
@[simp] theorem State.loadResponse_rxThr (d : List Byte) : (s.loadResponse d).rxThr = s.rxThr := rfl
@[simp] theorem State.loadResponse_txThr (d : List Byte) : (s.loadResponse d).txThr = s.txThr := rfl
@[simp] theorem State.loadResponse_tmrArmed (d : List Byte) : (s.loadResponse d).tmrArmed = s.tmrArmed := rfl
@[simp] theorem State.loadResponse_tmrGen (d : List Byte) : (s.loadResponse d).tmrGen = s.tmrGen := rfl
@[simp] theorem State.loadResponse_ntfPend (d : List Byte) : (s.loadResponse d).ntfPend = s.ntfPend := rfl
@[simp] theorem State.loadResponse_ntfRx (d : List Byte) : (s.loadResponse d).ntfRx = s.ntfRx := rfl
@[simp] theorem State.loadResponse_ntfTx (d : List Byte) : (s.loadResponse d).ntfTx = s.ntfTx := rfl
@[simp] theorem State.loadResponse_tmfPend (d : List Byte) : (s.loadResponse d).tmfPend = s.tmfPend := rfl
@[simp] theorem State.loadResponse_tmfGen (d : List Byte) : (s.loadResponse d).tmfGen = s.tmfGen := rfl
@[simp] theorem State.loadResponse_canPend (d : List Byte) : (s.loadResponse d).canPend = s.canPend := rfl
@[simp] theorem State.loadResponse_canTag (d : List Byte) : (s.loadResponse d).canTag = s.canTag := rfl
@[simp] theorem State.loadResponse_trRx (d : List Byte) : (s.loadResponse d).trRx = s.trRx := rfl
@[simp] theorem State.loadResponse_trTx (d : List Byte) : (s.loadResponse d).trTx = s.trTx := rfl
@[simp] theorem State.loadResponse_trCap (d : List Byte) : (s.loadResponse d).trCap = s.trCap := rfl
@[simp] theorem State.loadResponse_trRxThr (d : List Byte) : (s.loadResponse d).trRxThr = s.trRxThr := rfl
@[simp] theorem State.loadResponse_trTxThr (d : List Byte) : (s.loadResponse d).trTxThr = s.trTxThr := rfl
@[simp] theorem State.loadResponse_delivered (d : List Byte) : (s.loadResponse d).delivered = s.delivered := rfl
@[simp] theorem State.loadResponse_wait (d : List Byte) : (s.loadResponse d).wait = s.wait := rfl
@[simp] theorem State.loadResponse_history (d : List Byte) : (s.loadResponse d).history = s.history := rfl
@[simp] theorem State.loadResponse_turns (d : List Byte) : (s.loadResponse d).turns = s.turns := rfl
@[simp] theorem State.loadResponse_answers (d : List Byte) : (s.loadResponse d).answers = s.answers := rfl
@[simp] theorem State.loadResponse_draws (d : List Byte) : (s.loadResponse d).draws = s.draws := rfl

/-! ### State.latchNotify -/

@[simp] theorem State.latchNotify_cfg (rx tx : Word) : (s.latchNotify rx tx).cfg = s.cfg := rfl
@[simp] theorem State.latchNotify_state (rx tx : Word) : (s.latchNotify rx tx).state = s.state := rfl
@[simp] theorem State.latchNotify_opcode (rx tx : Word) : (s.latchNotify rx tx).opcode = s.opcode := rfl
@[simp] theorem State.latchNotify_outbuf (rx tx : Word) : (s.latchNotify rx tx).outbuf = s.outbuf := rfl
@[simp] theorem State.latchNotify_outlen (rx tx : Word) : (s.latchNotify rx tx).outlen = s.outlen := rfl
@[simp] theorem State.latchNotify_inbuf (rx tx : Word) : (s.latchNotify rx tx).inbuf = s.inbuf := rfl
@[simp] theorem State.latchNotify_inlen (rx tx : Word) : (s.latchNotify rx tx).inlen = s.inlen := rfl
@[simp] theorem State.latchNotify_rspLenM1 (rx tx : Word) : (s.latchNotify rx tx).rspLenM1 = s.rspLenM1 := rfl
@[simp] theorem State.latchNotify_declLen (rx tx : Word) : (s.latchNotify rx tx).declLen = s.declLen := rfl
@[simp] theorem State.latchNotify_tag (rx tx : Word) : (s.latchNotify rx tx).tag = s.tag := rfl
@[simp] theorem State.latchNotify_nextTag (rx tx : Word) : (s.latchNotify rx tx).nextTag = s.nextTag := rfl
@[simp] theorem State.latchNotify_rxThr (rx tx : Word) : (s.latchNotify rx tx).rxThr = s.rxThr := rfl
@[simp] theorem State.latchNotify_txThr (rx tx : Word) : (s.latchNotify rx tx).txThr = s.txThr := rfl
@[simp] theorem State.latchNotify_tmrArmed (rx tx : Word) : (s.latchNotify rx tx).tmrArmed = s.tmrArmed := rfl
@[simp] theorem State.latchNotify_tmrGen (rx tx : Word) : (s.latchNotify rx tx).tmrGen = s.tmrGen := rfl
@[simp] theorem State.latchNotify_ntfPend (rx tx : Word) : (s.latchNotify rx tx).ntfPend = true := rfl
@[simp] theorem State.latchNotify_ntfRx (rx tx : Word) : (s.latchNotify rx tx).ntfRx = rx := rfl
@[simp] theorem State.latchNotify_ntfTx (rx tx : Word) : (s.latchNotify rx tx).ntfTx = tx := rfl
@[simp] theorem State.latchNotify_tmfPend (rx tx : Word) : (s.latchNotify rx tx).tmfPend = s.tmfPend := rfl
@[simp] theorem State.latchNotify_tmfGen (rx tx : Word) : (s.latchNotify rx tx).tmfGen = s.tmfGen := rfl
@[simp] theorem State.latchNotify_canPend (rx tx : Word) : (s.latchNotify rx tx).canPend = s.canPend := rfl
@[simp] theorem State.latchNotify_canTag (rx tx : Word) : (s.latchNotify rx tx).canTag = s.canTag := rfl
@[simp] theorem State.latchNotify_trRx (rx tx : Word) : (s.latchNotify rx tx).trRx = s.trRx := rfl
@[simp] theorem State.latchNotify_trTx (rx tx : Word) : (s.latchNotify rx tx).trTx = s.trTx := rfl
@[simp] theorem State.latchNotify_trCap (rx tx : Word) : (s.latchNotify rx tx).trCap = s.trCap := rfl
@[simp] theorem State.latchNotify_trRxThr (rx tx : Word) : (s.latchNotify rx tx).trRxThr = s.trRxThr := rfl
@[simp] theorem State.latchNotify_trTxThr (rx tx : Word) : (s.latchNotify rx tx).trTxThr = s.trTxThr := rfl
@[simp] theorem State.latchNotify_delivered (rx tx : Word) : (s.latchNotify rx tx).delivered = s.delivered := rfl
@[simp] theorem State.latchNotify_wait (rx tx : Word) : (s.latchNotify rx tx).wait = s.wait := rfl
@[simp] theorem State.latchNotify_history (rx tx : Word) : (s.latchNotify rx tx).history = s.history := rfl
@[simp] theorem State.latchNotify_turns (rx tx : Word) : (s.latchNotify rx tx).turns = s.turns := rfl
@[simp] theorem State.latchNotify_answers (rx tx : Word) : (s.latchNotify rx tx).answers = s.answers := rfl
@[simp] theorem State.latchNotify_draws (rx tx : Word) : (s.latchNotify rx tx).draws = s.draws := rfl

/-! ### State.latchTimer -/

@[simp] theorem State.latchTimer_cfg (g : Word) : (s.latchTimer g).cfg = s.cfg := rfl
@[simp] theorem State.latchTimer_state (g : Word) : (s.latchTimer g).state = s.state := rfl
@[simp] theorem State.latchTimer_opcode (g : Word) : (s.latchTimer g).opcode = s.opcode := rfl
@[simp] theorem State.latchTimer_outbuf (g : Word) : (s.latchTimer g).outbuf = s.outbuf := rfl
@[simp] theorem State.latchTimer_outlen (g : Word) : (s.latchTimer g).outlen = s.outlen := rfl
@[simp] theorem State.latchTimer_inbuf (g : Word) : (s.latchTimer g).inbuf = s.inbuf := rfl
@[simp] theorem State.latchTimer_inlen (g : Word) : (s.latchTimer g).inlen = s.inlen := rfl
@[simp] theorem State.latchTimer_rspLenM1 (g : Word) : (s.latchTimer g).rspLenM1 = s.rspLenM1 := rfl
@[simp] theorem State.latchTimer_declLen (g : Word) : (s.latchTimer g).declLen = s.declLen := rfl
@[simp] theorem State.latchTimer_tag (g : Word) : (s.latchTimer g).tag = s.tag := rfl
@[simp] theorem State.latchTimer_nextTag (g : Word) : (s.latchTimer g).nextTag = s.nextTag := rfl
@[simp] theorem State.latchTimer_rxThr (g : Word) : (s.latchTimer g).rxThr = s.rxThr := rfl
@[simp] theorem State.latchTimer_txThr (g : Word) : (s.latchTimer g).txThr = s.txThr := rfl
@[simp] theorem State.latchTimer_tmrArmed (g : Word) : (s.latchTimer g).tmrArmed = s.tmrArmed := rfl
@[simp] theorem State.latchTimer_tmrGen (g : Word) : (s.latchTimer g).tmrGen = s.tmrGen := rfl
@[simp] theorem State.latchTimer_ntfPend (g : Word) : (s.latchTimer g).ntfPend = s.ntfPend := rfl
@[simp] theorem State.latchTimer_ntfRx (g : Word) : (s.latchTimer g).ntfRx = s.ntfRx := rfl
@[simp] theorem State.latchTimer_ntfTx (g : Word) : (s.latchTimer g).ntfTx = s.ntfTx := rfl
@[simp] theorem State.latchTimer_tmfPend (g : Word) : (s.latchTimer g).tmfPend = true := rfl
@[simp] theorem State.latchTimer_tmfGen (g : Word) : (s.latchTimer g).tmfGen = g := rfl
@[simp] theorem State.latchTimer_canPend (g : Word) : (s.latchTimer g).canPend = s.canPend := rfl
@[simp] theorem State.latchTimer_canTag (g : Word) : (s.latchTimer g).canTag = s.canTag := rfl
@[simp] theorem State.latchTimer_trRx (g : Word) : (s.latchTimer g).trRx = s.trRx := rfl
@[simp] theorem State.latchTimer_trTx (g : Word) : (s.latchTimer g).trTx = s.trTx := rfl
@[simp] theorem State.latchTimer_trCap (g : Word) : (s.latchTimer g).trCap = s.trCap := rfl
@[simp] theorem State.latchTimer_trRxThr (g : Word) : (s.latchTimer g).trRxThr = s.trRxThr := rfl
@[simp] theorem State.latchTimer_trTxThr (g : Word) : (s.latchTimer g).trTxThr = s.trTxThr := rfl
@[simp] theorem State.latchTimer_delivered (g : Word) : (s.latchTimer g).delivered = s.delivered := rfl
@[simp] theorem State.latchTimer_wait (g : Word) : (s.latchTimer g).wait = s.wait := rfl
@[simp] theorem State.latchTimer_history (g : Word) : (s.latchTimer g).history = s.history := rfl
@[simp] theorem State.latchTimer_turns (g : Word) : (s.latchTimer g).turns = s.turns := rfl
@[simp] theorem State.latchTimer_answers (g : Word) : (s.latchTimer g).answers = s.answers := rfl
@[simp] theorem State.latchTimer_draws (g : Word) : (s.latchTimer g).draws = s.draws := rfl

/-! ### State.latchCancel -/

@[simp] theorem State.latchCancel_cfg (c : Byte) : (s.latchCancel c).cfg = s.cfg := rfl
@[simp] theorem State.latchCancel_state (c : Byte) : (s.latchCancel c).state = s.state := rfl
@[simp] theorem State.latchCancel_opcode (c : Byte) : (s.latchCancel c).opcode = s.opcode := rfl
@[simp] theorem State.latchCancel_outbuf (c : Byte) : (s.latchCancel c).outbuf = s.outbuf := rfl
@[simp] theorem State.latchCancel_outlen (c : Byte) : (s.latchCancel c).outlen = s.outlen := rfl
@[simp] theorem State.latchCancel_inbuf (c : Byte) : (s.latchCancel c).inbuf = s.inbuf := rfl
@[simp] theorem State.latchCancel_inlen (c : Byte) : (s.latchCancel c).inlen = s.inlen := rfl
@[simp] theorem State.latchCancel_rspLenM1 (c : Byte) : (s.latchCancel c).rspLenM1 = s.rspLenM1 := rfl
@[simp] theorem State.latchCancel_declLen (c : Byte) : (s.latchCancel c).declLen = s.declLen := rfl
@[simp] theorem State.latchCancel_tag (c : Byte) : (s.latchCancel c).tag = s.tag := rfl
@[simp] theorem State.latchCancel_nextTag (c : Byte) : (s.latchCancel c).nextTag = s.nextTag := rfl
@[simp] theorem State.latchCancel_rxThr (c : Byte) : (s.latchCancel c).rxThr = s.rxThr := rfl
@[simp] theorem State.latchCancel_txThr (c : Byte) : (s.latchCancel c).txThr = s.txThr := rfl
@[simp] theorem State.latchCancel_tmrArmed (c : Byte) : (s.latchCancel c).tmrArmed = s.tmrArmed := rfl
@[simp] theorem State.latchCancel_tmrGen (c : Byte) : (s.latchCancel c).tmrGen = s.tmrGen := rfl
@[simp] theorem State.latchCancel_ntfPend (c : Byte) : (s.latchCancel c).ntfPend = s.ntfPend := rfl
@[simp] theorem State.latchCancel_ntfRx (c : Byte) : (s.latchCancel c).ntfRx = s.ntfRx := rfl
@[simp] theorem State.latchCancel_ntfTx (c : Byte) : (s.latchCancel c).ntfTx = s.ntfTx := rfl
@[simp] theorem State.latchCancel_tmfPend (c : Byte) : (s.latchCancel c).tmfPend = s.tmfPend := rfl
@[simp] theorem State.latchCancel_tmfGen (c : Byte) : (s.latchCancel c).tmfGen = s.tmfGen := rfl
@[simp] theorem State.latchCancel_canPend (c : Byte) : (s.latchCancel c).canPend = true := rfl
@[simp] theorem State.latchCancel_canTag (c : Byte) : (s.latchCancel c).canTag = c := rfl
@[simp] theorem State.latchCancel_trRx (c : Byte) : (s.latchCancel c).trRx = s.trRx := rfl
@[simp] theorem State.latchCancel_trTx (c : Byte) : (s.latchCancel c).trTx = s.trTx := rfl
@[simp] theorem State.latchCancel_trCap (c : Byte) : (s.latchCancel c).trCap = s.trCap := rfl
@[simp] theorem State.latchCancel_trRxThr (c : Byte) : (s.latchCancel c).trRxThr = s.trRxThr := rfl
@[simp] theorem State.latchCancel_trTxThr (c : Byte) : (s.latchCancel c).trTxThr = s.trTxThr := rfl
@[simp] theorem State.latchCancel_delivered (c : Byte) : (s.latchCancel c).delivered = s.delivered := rfl
@[simp] theorem State.latchCancel_wait (c : Byte) : (s.latchCancel c).wait = s.wait := rfl
@[simp] theorem State.latchCancel_history (c : Byte) : (s.latchCancel c).history = s.history := rfl
@[simp] theorem State.latchCancel_turns (c : Byte) : (s.latchCancel c).turns = s.turns := rfl
@[simp] theorem State.latchCancel_answers (c : Byte) : (s.latchCancel c).answers = s.answers := rfl
@[simp] theorem State.latchCancel_draws (c : Byte) : (s.latchCancel c).draws = s.draws := rfl

/-! ### State.deliver -/

@[simp] theorem State.deliver_cfg (u : List Byte) : (s.deliver u).cfg = s.cfg := rfl
@[simp] theorem State.deliver_state (u : List Byte) : (s.deliver u).state = s.state := rfl
@[simp] theorem State.deliver_opcode (u : List Byte) : (s.deliver u).opcode = s.opcode := rfl
@[simp] theorem State.deliver_outbuf (u : List Byte) : (s.deliver u).outbuf = s.outbuf := rfl
@[simp] theorem State.deliver_outlen (u : List Byte) : (s.deliver u).outlen = s.outlen := rfl
@[simp] theorem State.deliver_inbuf (u : List Byte) : (s.deliver u).inbuf = s.inbuf := rfl
@[simp] theorem State.deliver_inlen (u : List Byte) : (s.deliver u).inlen = s.inlen := rfl
@[simp] theorem State.deliver_rspLenM1 (u : List Byte) : (s.deliver u).rspLenM1 = s.rspLenM1 := rfl
@[simp] theorem State.deliver_declLen (u : List Byte) : (s.deliver u).declLen = s.declLen := rfl
@[simp] theorem State.deliver_tag (u : List Byte) : (s.deliver u).tag = s.tag := rfl
@[simp] theorem State.deliver_nextTag (u : List Byte) : (s.deliver u).nextTag = s.nextTag := rfl
@[simp] theorem State.deliver_rxThr (u : List Byte) : (s.deliver u).rxThr = s.rxThr := rfl
@[simp] theorem State.deliver_txThr (u : List Byte) : (s.deliver u).txThr = s.txThr := rfl
@[simp] theorem State.deliver_tmrArmed (u : List Byte) : (s.deliver u).tmrArmed = s.tmrArmed := rfl
@[simp] theorem State.deliver_tmrGen (u : List Byte) : (s.deliver u).tmrGen = s.tmrGen := rfl
@[simp] theorem State.deliver_ntfPend (u : List Byte) : (s.deliver u).ntfPend = s.ntfPend := rfl
@[simp] theorem State.deliver_ntfRx (u : List Byte) : (s.deliver u).ntfRx = s.ntfRx := rfl
@[simp] theorem State.deliver_ntfTx (u : List Byte) : (s.deliver u).ntfTx = s.ntfTx := rfl
@[simp] theorem State.deliver_tmfPend (u : List Byte) : (s.deliver u).tmfPend = s.tmfPend := rfl
@[simp] theorem State.deliver_tmfGen (u : List Byte) : (s.deliver u).tmfGen = s.tmfGen := rfl
@[simp] theorem State.deliver_canPend (u : List Byte) : (s.deliver u).canPend = s.canPend := rfl
@[simp] theorem State.deliver_canTag (u : List Byte) : (s.deliver u).canTag = s.canTag := rfl
@[simp] theorem State.deliver_trRx (u : List Byte) : (s.deliver u).trRx = s.trRx := rfl
@[simp] theorem State.deliver_trTx (u : List Byte) : (s.deliver u).trTx = s.trTx := rfl
@[simp] theorem State.deliver_trCap (u : List Byte) : (s.deliver u).trCap = s.trCap := rfl
@[simp] theorem State.deliver_trRxThr (u : List Byte) : (s.deliver u).trRxThr = s.trRxThr := rfl
@[simp] theorem State.deliver_trTxThr (u : List Byte) : (s.deliver u).trTxThr = s.trTxThr := rfl
@[simp] theorem State.deliver_delivered (u : List Byte) : (s.deliver u).delivered = s.delivered ++ u := rfl
@[simp] theorem State.deliver_wait (u : List Byte) : (s.deliver u).wait = s.wait := rfl
@[simp] theorem State.deliver_history (u : List Byte) : (s.deliver u).history = s.history := rfl
@[simp] theorem State.deliver_turns (u : List Byte) : (s.deliver u).turns = s.turns := rfl
@[simp] theorem State.deliver_answers (u : List Byte) : (s.deliver u).answers = s.answers := rfl
@[simp] theorem State.deliver_draws (u : List Byte) : (s.deliver u).draws = s.draws := rfl

/-! ### State.receive -/

@[simp] theorem State.receive_cfg (u : List Byte) : (s.receive u).cfg = s.cfg := rfl
@[simp] theorem State.receive_state (u : List Byte) : (s.receive u).state = s.state := rfl
@[simp] theorem State.receive_opcode (u : List Byte) : (s.receive u).opcode = s.opcode := rfl
@[simp] theorem State.receive_outbuf (u : List Byte) : (s.receive u).outbuf = s.outbuf := rfl
@[simp] theorem State.receive_outlen (u : List Byte) : (s.receive u).outlen = s.outlen := rfl
@[simp] theorem State.receive_inbuf (u : List Byte) : (s.receive u).inbuf = s.inbuf := rfl
@[simp] theorem State.receive_inlen (u : List Byte) : (s.receive u).inlen = s.inlen := rfl
@[simp] theorem State.receive_rspLenM1 (u : List Byte) : (s.receive u).rspLenM1 = s.rspLenM1 := rfl
@[simp] theorem State.receive_declLen (u : List Byte) : (s.receive u).declLen = s.declLen := rfl
@[simp] theorem State.receive_tag (u : List Byte) : (s.receive u).tag = s.tag := rfl
@[simp] theorem State.receive_nextTag (u : List Byte) : (s.receive u).nextTag = s.nextTag := rfl
@[simp] theorem State.receive_rxThr (u : List Byte) : (s.receive u).rxThr = s.rxThr := rfl
@[simp] theorem State.receive_txThr (u : List Byte) : (s.receive u).txThr = s.txThr := rfl
@[simp] theorem State.receive_tmrArmed (u : List Byte) : (s.receive u).tmrArmed = s.tmrArmed := rfl
@[simp] theorem State.receive_tmrGen (u : List Byte) : (s.receive u).tmrGen = s.tmrGen := rfl
@[simp] theorem State.receive_ntfPend (u : List Byte) : (s.receive u).ntfPend = s.ntfPend := rfl
@[simp] theorem State.receive_ntfRx (u : List Byte) : (s.receive u).ntfRx = s.ntfRx := rfl
@[simp] theorem State.receive_ntfTx (u : List Byte) : (s.receive u).ntfTx = s.ntfTx := rfl
@[simp] theorem State.receive_tmfPend (u : List Byte) : (s.receive u).tmfPend = s.tmfPend := rfl
@[simp] theorem State.receive_tmfGen (u : List Byte) : (s.receive u).tmfGen = s.tmfGen := rfl
@[simp] theorem State.receive_canPend (u : List Byte) : (s.receive u).canPend = s.canPend := rfl
@[simp] theorem State.receive_canTag (u : List Byte) : (s.receive u).canTag = s.canTag := rfl
@[simp] theorem State.receive_trRx (u : List Byte) : (s.receive u).trRx = s.trRx ++ u := rfl
@[simp] theorem State.receive_trTx (u : List Byte) : (s.receive u).trTx = s.trTx := rfl
@[simp] theorem State.receive_trCap (u : List Byte) : (s.receive u).trCap = s.trCap := rfl
@[simp] theorem State.receive_trRxThr (u : List Byte) : (s.receive u).trRxThr = s.trRxThr := rfl
@[simp] theorem State.receive_trTxThr (u : List Byte) : (s.receive u).trTxThr = s.trTxThr := rfl
@[simp] theorem State.receive_delivered (u : List Byte) : (s.receive u).delivered = s.delivered := rfl
@[simp] theorem State.receive_wait (u : List Byte) : (s.receive u).wait = s.wait := rfl
@[simp] theorem State.receive_history (u : List Byte) : (s.receive u).history = s.history := rfl
@[simp] theorem State.receive_turns (u : List Byte) : (s.receive u).turns = s.turns := rfl
@[simp] theorem State.receive_answers (u : List Byte) : (s.receive u).answers = s.answers := rfl
@[simp] theorem State.receive_draws (u : List Byte) : (s.receive u).draws = s.draws := rfl

/-! ### State.anomaly -/

@[simp] theorem State.anomaly_cfg : s.anomaly.cfg = s.cfg := rfl
@[simp] theorem State.anomaly_state : s.anomaly.state = s.state := rfl
@[simp] theorem State.anomaly_opcode : s.anomaly.opcode = s.opcode := rfl
@[simp] theorem State.anomaly_outbuf : s.anomaly.outbuf = s.outbuf := rfl
@[simp] theorem State.anomaly_outlen : s.anomaly.outlen = s.outlen := rfl
@[simp] theorem State.anomaly_inbuf : s.anomaly.inbuf = s.inbuf := rfl
@[simp] theorem State.anomaly_inlen : s.anomaly.inlen = s.inlen := rfl
@[simp] theorem State.anomaly_rspLenM1 : s.anomaly.rspLenM1 = s.rspLenM1 := rfl
@[simp] theorem State.anomaly_declLen : s.anomaly.declLen = s.declLen := rfl
@[simp] theorem State.anomaly_tag : s.anomaly.tag = s.tag := rfl
@[simp] theorem State.anomaly_nextTag : s.anomaly.nextTag = s.nextTag := rfl
@[simp] theorem State.anomaly_rxThr : s.anomaly.rxThr = s.rxThr := rfl
@[simp] theorem State.anomaly_txThr : s.anomaly.txThr = s.txThr := rfl
@[simp] theorem State.anomaly_tmrArmed : s.anomaly.tmrArmed = s.tmrArmed := rfl
@[simp] theorem State.anomaly_tmrGen : s.anomaly.tmrGen = s.tmrGen := rfl
@[simp] theorem State.anomaly_ntfPend : s.anomaly.ntfPend = s.ntfPend := rfl
@[simp] theorem State.anomaly_ntfRx : s.anomaly.ntfRx = s.ntfRx := rfl
@[simp] theorem State.anomaly_ntfTx : s.anomaly.ntfTx = s.ntfTx := rfl
@[simp] theorem State.anomaly_tmfPend : s.anomaly.tmfPend = s.tmfPend := rfl
@[simp] theorem State.anomaly_tmfGen : s.anomaly.tmfGen = s.tmfGen := rfl
@[simp] theorem State.anomaly_canPend : s.anomaly.canPend = s.canPend := rfl
@[simp] theorem State.anomaly_canTag : s.anomaly.canTag = s.canTag := rfl
@[simp] theorem State.anomaly_trRx : s.anomaly.trRx = Config.freeFifo s.draws := rfl
@[simp] theorem State.anomaly_trTx : s.anomaly.trTx = Config.freeFifo (s.draws + 1) := rfl
@[simp] theorem State.anomaly_trCap : s.anomaly.trCap = s.trCap := rfl
@[simp] theorem State.anomaly_trRxThr : s.anomaly.trRxThr = Config.freeThreshold s.draws := rfl
@[simp] theorem State.anomaly_trTxThr : s.anomaly.trTxThr = Config.freeThreshold (s.draws + 1) := rfl
@[simp] theorem State.anomaly_delivered : s.anomaly.delivered = s.delivered ++ Config.freeFifo (s.draws + 2) := rfl
@[simp] theorem State.anomaly_wait : s.anomaly.wait = s.wait := rfl
@[simp] theorem State.anomaly_history : s.anomaly.history = s.history := rfl
@[simp] theorem State.anomaly_turns : s.anomaly.turns = s.turns := rfl
@[simp] theorem State.anomaly_answers : s.anomaly.answers = s.answers := rfl
@[simp] theorem State.anomaly_draws : s.anomaly.draws = s.draws + 3 := rfl

end Sys2Proof.Machine
end

