-- ==== Sys2Proof/Laws/Ops.lean ====
section
/-! SUPPORT. One lemma per shared operation that says everything it can do; proofs cite it and do not unfold the operation. -/

namespace Sys2Proof.Machine

/-! ### The transport's answers and calls -/

theorem State.answer_cons {s : State} {a : Word} {rest : List Word} (h : s.answers = a :: rest) :
    s.answer = (a, { s with answers := rest }) := by
  simp [State.answer, h]

/-- A draw changes only what holds the draws. -/
theorem State.answer_frame (s : State) :
    ∃ as d, s.answer.2 = { s with answers := as, draws := d } := by
  unfold State.answer
  split <;> exact ⟨_, _, rfl⟩

/-- `UartWrite` changes only the transport's state, the history and the draws, and records the answer it gives. -/
theorem State.uartWrite_frame (bytes : List Byte) (s : State) :
    ∃ rx tx rt tt sent as d, (s.uartWrite bytes).2 =
      { s with trRx := rx, trTx := tx, trRxThr := rt, trTxThr := tt, delivered := s.delivered ++ sent,
               answers := as, draws := d, history := s.history ++ [.uartWrite bytes (s.uartWrite bytes).1] } := by
  obtain ⟨as, d, h⟩ := s.answer_frame
  simp only [State.uartWrite, h]
  split
  · exact ⟨s.trRx, _, s.trRxThr, s.trTxThr, [], as, d, by rw [List.append_nil]; rfl⟩
  · exact ⟨_, _, _, _, _, as, d + 3, rfl⟩

/-- A write the transport takes whole: every byte joins the transmit buffer (R190). -/
theorem State.uartWrite_whole {s : State} {rest : List Word} (bytes : List Byte) (h : s.answers = 0 :: rest) :
    s.uartWrite bytes =
      (0, { s with trTx := s.trTx ++ bytes, answers := rest, history := s.history ++ [.uartWrite bytes 0] }) := by
  simp [State.uartWrite, State.answer_cons h, writeInContract, State.emit]

/-- `UartRead` changes only the transport's state, the history and the draws, and records what it returns. -/
theorem State.uartRead_frame (n : Nat) (s : State) :
    ∃ rx tx rt tt sent as d, (s.uartRead n).2.2 =
      { s with trRx := rx, trTx := tx, trRxThr := rt, trTxThr := tt, delivered := s.delivered ++ sent,
               answers := as, draws := d,
               history := s.history ++ [.uartRead n (s.uartRead n).1 (s.uartRead n).2.1] } := by
  obtain ⟨as, d, h⟩ := s.answer_frame
  simp only [State.uartRead, h]
  split
  · exact ⟨_, s.trTx, s.trRxThr, s.trTxThr, [], as, d, by rw [List.append_nil]; rfl⟩
  · exact ⟨_, _, _, _, _, as, d + 3, rfl⟩

/-- A read returns `max(0, min(cr, n))` bytes (R12). -/
theorem State.readBytes_length (n : Nat) (cr : Word) (s : State) :
    (s.readBytes n cr).length = (min cr.toInt (n : Int)).toNat := by
  unfold State.readBytes
  split
  case isTrue h => simp [readInContract] at h; simp; omega
  case isFalse => simp

/-- A read answered in full inside the contract: the oldest `n` bytes (R190, R51). -/
theorem State.uartRead_full {s : State} {rest : List Word} {n : Nat} (h : s.answers = BitVec.ofNat 32 n :: rest)
    (hn : n < 2 ^ 31) (hb : n ≤ s.trRx.length) :
    s.uartRead n = (BitVec.ofNat 32 n, s.trRx.take n,
      { s with trRx := s.trRx.drop n, answers := rest,
               history := s.history ++ [.uartRead n (BitVec.ofNat 32 n) (s.trRx.take n)] }) := by
  have hi : (BitVec.ofNat 32 n).toInt = (n : Int) := by
    rw [BitVec.toInt_eq_toNat_cond, BitVec.toNat_ofNat]; split <;> omega
  simp [State.uartRead, State.answer_cons h, State.readBytes, readInContract, hi, hb, State.emit]

/-- `UartDiscardTx` changes only the transmit buffer, the history and the draws. -/
theorem State.uartDiscardTx_frame (s : State) :
    ∃ tx d, s.uartDiscardTx =
      { s with trTx := tx, draws := d, history := s.history ++ [.uartDiscardTx] } := ⟨_, _, rfl⟩

/-! ### The timer and the procedures -/

theorem State.disarm_armed {s : State} (h : s.tmrArmed = true) :
    s.disarm = { s with tmrArmed := false, wait := none, history := s.history ++ [.timerDisarm] } := by
  simp [State.disarm, h, State.emit]

theorem State.disarm_idle {s : State} (h : s.tmrArmed = false) : s.disarm = s := by
  simp [State.disarm, h]

/-- The outputs of the disarming in `ENTER` (R132). -/
def State.disarmOut (s : State) : List OutEvent := if s.tmrArmed then [.timerDisarm] else []

/-- `ENTER(Ready)`, whole (R132). -/
theorem State.enter_ready (s : State) :
    s.enter .ready =
      { s with state := .ready, rxThr := 0, txThr := 0, trRxThr := 0, trTxThr := 0, tmrArmed := false,
               wait := if s.tmrArmed then none else s.wait,
               history := s.history ++ s.disarmOut ++ [.uartSetThreshold 0 0] } := by
  cases h : s.tmrArmed <;>
    simp [State.enter, State.disarm, State.thr, State.setThreshold, State.emit, State.disarmOut, h]

/-- `ENTER(st)` of a non-Ready state, whole (R132). -/
theorem State.enter_busy {st : TransactionState} (h : st ≠ .ready) (s : State) :
    s.enter st =
      { s with state := st, rxThr := (s.thr st).1, txThr := (s.thr st).2, trRxThr := (s.thr st).1,
               trTxThr := (s.thr st).2, tmrArmed := true, tmrGen := s.tmrGen + 1, wait := some ⟨s.tmrGen + 1, st, s.cfg.tWait.of st⟩,
               history := s.history ++ s.disarmOut ++
                 [.uartSetThreshold (s.thr st).1 (s.thr st).2, .timerArm (s.tmrGen + 1) st] } := by
  cases hs : s.tmrArmed <;> cases st <;>
    simp [State.enter, State.disarm, State.thr, State.setThreshold, State.arm, State.emit, State.disarmOut, hs] at h ⊢

/-- `FINISH(outcome, payload)`, whole (R133). -/
theorem State.finish_eq (o : TermOutcome) (p : List Byte) (s : State) :
    s.finish o p =
      { s with state := .ready, opcode := 0, outbuf := cleared s.cfg, outlen := 0, inbuf := cleared s.cfg, inlen := 0,
               rspLenM1 := 0, declLen := 0, rxThr := 0, txThr := 0, trRxThr := 0, trTxThr := 0, tmrArmed := false,
               wait := if s.tmrArmed then none else s.wait,
               history := s.history ++ s.disarmOut ++ [.uartSetThreshold 0 0, .complete s.tag o p] } := by
  simp [State.finish, State.enter_ready, State.clearTransaction, State.emit, State.disarmOut]

/-- `ABORT(code)` is `FINISH(code, [])` (R134). -/
theorem State.abort_eq (c : FailCode) (s : State) : s.abort c = s.finish c.outcome [] := rfl

/-- What a write inside a transaction can end in (R136, R140). -/
theorem State.submit_cases (bytes : List Byte) (st : TransactionState) (s : State) :
    ((s.uartWrite bytes).1 ≠ 0 ∧ s.submit bytes st = (s.uartWrite bytes).2.abort .unexpectedError) ∨
      ((s.uartWrite bytes).1 = 0 ∧ s.submit bytes st = (s.uartWrite bytes).2.enter st) := by
  by_cases h : (s.uartWrite bytes).1 = 0#32 <;> simp [State.submit, h]

/-- What admission can end in, with the checks in the spec's order (R170, R214). -/
theorem State.admission_cases (e : Option Request) (s : State) :
    (s.state ≠ .ready ∧ s.admission e = s.emit (.admission .driverBusy 0)) ∨
      (s.state = .ready ∧ e = none ∧ s.admission e = s.emit (.admission .unexpectedError 0)) ∨
      (∃ q, s.state = .ready ∧ e = some q ∧ (s.uartWrite [q.opcode]).1 ≠ 0 ∧
        ∃ r, (r = .serialBufferFull ∨ r = .unexpectedError) ∧
          s.admission e = (s.uartWrite [q.opcode]).2.emit (.admission r 0)) ∨
      (∃ q, s.state = .ready ∧ e = some q ∧ (s.uartWrite [q.opcode]).1 = 0 ∧
        s.admission e = (((s.uartWrite [q.opcode]).2.loadRequest q).enter .sendingOpcode).emit
          (.admission .admitted (s.uartWrite [q.opcode]).2.nextTag)) := by
  by_cases hr : s.state = .ready
  · cases e with
    | none => exact .inr (.inl ⟨hr, rfl, by simp [State.admission, hr]⟩)
    | some q =>
      by_cases h0 : (s.uartWrite [q.opcode]).1 = 0#32
      · exact .inr (.inr (.inr ⟨q, hr, rfl, h0, by simp [State.admission, hr, h0]⟩))
      · refine .inr (.inr (.inl ⟨q, hr, rfl, h0, ?_⟩))
        by_cases h1 : (s.uartWrite [q.opcode]).1 = 1#32
        · exact ⟨.serialBufferFull, .inl rfl, by simp [State.admission, hr, h1]⟩
        · exact ⟨.unexpectedError, .inr rfl, by simp [State.admission, hr, h0, h1]⟩
  · exact .inl ⟨hr, by simp [State.admission, hr]⟩

/-- What an ack can end in (R136, R138, R142). -/
theorem State.onAck_cases (v : Ack) (s : State) :
    (v = .rejected ∧ (s.state = .waitingBeginAck ∨ s.state = .waitingEndAck) ∧ s.onAck v = s.abort .protocolNack) ∨
      (v = .accepted ∧ s.state = .waitingBeginAck ∧ s.onAck v = s.submit (s.outbuf.take s.outlen) .sendingData) ∨
      (v = .accepted ∧ s.state = .waitingEndAck ∧ s.opcode = s.cfg.opWrite ∧ s.onAck v = s.finish .success []) ∨
      (v = .accepted ∧ s.state = .waitingEndAck ∧ s.opcode ≠ s.cfg.opWrite ∧ s.onAck v = s.enter .waitingResponseLength) ∨
      (s.state ≠ .waitingBeginAck ∧ s.state ≠ .waitingEndAck ∧ s.onAck v = s) := by
  by_cases ho : s.opcode = s.cfg.opWrite <;> cases hs : s.state <;> cases v <;> simp [State.onAck, hs, ho]

/-- What the reading of an expected unit can end in (R136, R138 to R140). -/
theorem State.readUnit_cases (e : Expect) (s : State) :
    s.readUnit e = .done ((s.uartRead e.length).2.2.abort .unexpectedError) ∨
      ((s.uartRead e.length).1.toInt = (e.length : Int) ∧
        ∃ i, decodeReply s.cfg e (s.uartRead e.length).2.1 = .ok i ∧ s.readUnit e = .run i (s.uartRead e.length).2.2) := by
  by_cases h : (s.uartRead e.length).1.toInt = (e.length : Int)
  · cases hd : decodeReply s.cfg e (s.uartRead e.length).2.1 with
    | ok i => exact .inr ⟨h, i, rfl, by simp [State.readUnit, h, hd]⟩
    | error r => exact .inl (by simp [State.readUnit, h, hd])
  · exact .inl (by simp [State.readUnit, h])

/-- What the timer latch's step can end in (R143, R193). -/
theorem State.consumeTimer_cases (s : State) :
    (s.tmfPend = false ∧ s.consumeTimer = s) ∨
      (s.tmfPend = true ∧ s.tmrArmed = true ∧ s.tmfGen = s.tmrGen ∧
        s.consumeTimer = { s with tmfPend := false }.abort .timeout) ∨
      (s.tmfPend = true ∧ ¬(s.tmrArmed = true ∧ s.tmfGen = s.tmrGen) ∧ s.consumeTimer = { s with tmfPend := false }) := by
  cases hp : s.tmfPend
  · simp [State.consumeTimer, hp]
  · by_cases h : s.tmrArmed = true ∧ s.tmfGen = s.tmrGen <;> simp [State.consumeTimer, hp, h]

/-- What the cancel latch's step can end in (R172, R194). -/
theorem State.consumeCancel_cases (s : State) :
    (s.canPend = false ∧ s.consumeCancel = s) ∨
      (s.canPend = true ∧ s.state ≠ .ready ∧ s.canTag = s.tag ∧
        s.consumeCancel = { s with canPend := false }.uartDiscardTx.abort .timeout) ∨
      (s.canPend = true ∧ ¬(s.state ≠ .ready ∧ s.canTag = s.tag) ∧ s.consumeCancel = { s with canPend := false }) := by
  cases hp : s.canPend
  · simp [State.consumeCancel, hp]
  · by_cases h : s.state ≠ .ready ∧ s.canTag = s.tag <;> simp [State.consumeCancel, hp, h]

/-- What a `TxFree` can end in (R135, R137, R141, R142). -/
theorem State.onTxFree_cases (n : Word) (s : State) :
    s.onTxFree n = s ∨
      (meets n s.txThr = true ∧
        ((s.state = .sendingOpcode ∧ s.onTxFree n = s.enter .waitingBeginAck) ∨
          (s.state = .sendingData ∧ s.onTxFree n = s.enter .waitingEndAck) ∨
          (s.state = .sendingResponseAck ∧ s.onTxFree n = s.finish .success (s.inbuf.take s.inlen)))) := by
  by_cases hm : meets n s.txThr = true
  · cases hs : s.state <;> simp [State.onTxFree, hm, hs]
  · exact .inl (by simp [State.onTxFree, hm])

/-! ### Buffers -/

@[simp] theorem overwrite_length (buf bytes : List Byte) : (overwrite buf bytes).length = buf.length := by
  simp [overwrite]; omega

/-- A write that fits: the bytes, then what stood after them. -/
theorem overwrite_fits {buf bytes : List Byte} (h : bytes.length ≤ buf.length) :
    overwrite buf bytes = bytes ++ buf.drop bytes.length := by
  simp [overwrite]; omega

@[simp] theorem cleared_length (c : Config) : (cleared c).length = c.maxPayload + 2 := by simp [cleared]

end Sys2Proof.Machine
end

