-- ==== Sys2Proof/Laws/PerInstr.lean ====
section
/-! SUPPORT. What holds of the encoding of every instruction, one lemma per constructor: a record carries its KIND in bits 3:0 (30_encoding.md R81), and a wire unit stands on the port of its sender with the length its row gives (R71, R72, R74 to R76, R78). -/

namespace Sys2Proof.Laws.EncodedForm

/-- The KIND of a record's row (R81, R83), and none for a wire unit. -/
def kindOf : Instr → Option (BitVec 4)
  | .cmdWriteObject .. => some 0
  | .cmdReadObject .. => some 1
  | .cancel _ => some 2
  | .notify .. => some 3
  | .timerFired _ => some 4
  | .reservedKind kind _ => some kind
  | .writeObject | .readObject | .writeBody .. | .readBody .. | .ackAccept | .ackReject _ | .rspHeader ..
  | .rspData .. | .responseAck => none

/-- The length of a unit the block sends (R70, R71, R72, R76). -/
def sentLength : Instr → Option Nat
  | .writeObject | .readObject | .responseAck => some 1
  | .writeBody .. => some 11
  | .readBody .. => some 7
  | .ackAccept | .ackReject _ | .rspHeader .. | .rspData .. | .cmdWriteObject .. | .cmdReadObject .. | .cancel _
  | .notify .. | .timerFired _ | .reservedKind .. => none

/-- An instruction's encoding has the form of its row. -/
def Statement (i : Instr) : Prop :=
  ∀ c : Config, match encode c i with
  | .record r => kindOf i = some (r.extractLsb' 0 4) ∧ sentLength i = none
  | .toDevice u => kindOf i = none ∧ sentLength i = some u.length
  | .fromDevice u => kindOf i = none ∧ sentLength i = none ∧ u.length = i.expect.length

theorem writeObject : Statement .writeObject := fun _ => ⟨rfl, rfl⟩

theorem readObject : Statement .readObject := fun _ => ⟨rfl, rfl⟩

theorem writeBody (index : Half) (subindex node : Byte) (data : Word) (crc : Half) :
    Statement (.writeBody index subindex node data crc) := fun _ => ⟨rfl, rfl⟩

theorem readBody (index : Half) (subindex node : Byte) (crc : Half) :
    Statement (.readBody index subindex node crc) := fun _ => ⟨rfl, rfl⟩

theorem ackAccept : Statement .ackAccept := fun _ => ⟨rfl, rfl, rfl⟩

theorem ackReject (b : Byte) : Statement (.ackReject b) := fun _ => ⟨rfl, rfl, rfl⟩

theorem rspHeader (head : RspHead) (crc : Half) : Statement (.rspHeader head crc) :=
  fun _ => ⟨rfl, rfl, by simp [Instr.expect, Expect.length, bytes16]⟩

theorem rspData (data : List Byte) (crc : Half) : Statement (.rspData data crc) :=
  fun _ => ⟨rfl, rfl, by simp [Instr.expect, Expect.length, bytes16]⟩

theorem responseAck : Statement .responseAck := fun _ => ⟨rfl, rfl⟩

theorem cmdWriteObject (index : Half) (subindex node : Byte) (data : Word) :
    Statement (.cmdWriteObject index subindex node data) :=
  fun _ => ⟨congrArg some (record_kind (data ++ node ++ subindex ++ index) 0#4).symm, rfl⟩

theorem cmdReadObject (index : Half) (subindex node : Byte) : Statement (.cmdReadObject index subindex node) :=
  fun _ => ⟨congrArg some (record_kind (0#32 ++ node ++ subindex ++ index) 1#4).symm, rfl⟩

theorem cancel (tag : Byte) : Statement (.cancel tag) := fun _ => ⟨congrArg some (record_kind (0#56 ++ tag) 2#4).symm, rfl⟩

theorem notify (rx tx : Word) : Statement (.notify rx tx) := fun _ => ⟨congrArg some (record_kind (tx ++ rx) 3#4).symm, rfl⟩

theorem timerFired (gen : Word) : Statement (.timerFired gen) :=
  fun _ => ⟨congrArg some (record_kind (0#32 ++ gen) 4#4).symm, rfl⟩

theorem reservedKind (kind : BitVec 4) (rest : BitVec 64) : Statement (.reservedKind kind rest) :=
  fun _ => ⟨congrArg some (record_kind rest kind).symm, rfl⟩

end Sys2Proof.Laws.EncodedForm
end

