-- ==== Sys2Proof/Laws/Run.lean ====
section
/-! SUPPORT. Runs of several steps: how they join, and that a block with no turn to take stays where it is (60_exceptions.md R222). -/

namespace Sys2Proof.Machine

theorem Reaches.trans {j k : Nat} {s t u : State} (h : Reaches j s t) (h' : Reaches k t u) : Reaches (j + k) s u := by
  induction j generalizing s with
  | zero => cases h; simpa using h'
  | succ j ih =>
    obtain ⟨v, hv, hr⟩ := h
    rw [Nat.succ_add]
    exact ⟨v, hv, ih hr⟩

theorem Reaches.single {s t : State} (h : step s = .next t) : Reaches 1 s t := ⟨t, h, rfl⟩

/-- A step leaves the run of the next state, so what is assumed of a run holds of the rest of it. -/
theorem Reaches.cases_succ {k : Nat} {s t u : State} (h : step s = .next t) (hr : Reaches (k + 1) s u) : Reaches k t u := by
  obtain ⟨v, hv, hr⟩ := hr
  cases hv.symm.trans h
  exact hr

theorem step_idle {s : State} (h : s.turns = []) : step s = .next s := by
  simp [step, State.fetch, h]

/-- With no turn left a run stays where it is. -/
theorem Reaches.idle {k : Nat} {s t : State} (h : s.turns = []) (hr : Reaches k s t) : t = s := by
  induction k with
  | zero => exact hr.symm
  | succ k ih => exact ih (Reaches.cases_succ (step_idle h) hr)

/-- A call makes the history longer (R35). -/
theorem SetsThreshold.history_ne {s t : State} (h : SetsThreshold s t) : t.history ≠ s.history := by
  obtain ⟨out, _, _, ho, hm⟩ := h
  rw [ho]
  exact fun e => List.ne_nil_of_mem hm (by simpa using e)

/-- A-LEVEL on a run is A-LEVEL on the rest of it. -/
theorem State.ALevel.later {k : Nat} {s t : State} (h : s.ALevel) (hr : Reaches k s t) : t.ALevel :=
  fun _ _ _ ht => h _ _ _ (hr.trans ht)

/-- Fairness on a run is fairness on the rest of it. -/
theorem State.TimerFair.later {k : Nat} {s t : State} (h : s.TimerFair) (hr : Reaches k s t) : t.TimerFair :=
  fun _ _ ht => h _ _ (hr.trans ht)

/-- A transport that keeps to its capacity on a run does so on the rest of it. -/
theorem State.Capacity.later {k : Nat} {s t : State} (h : s.Capacity) (hr : Reaches k s t) : t.Capacity :=
  fun _ _ ht => h _ _ (hr.trans ht)

/-- A run keeps to the capacity if its first state does and the rest of it does. -/
theorem State.Capacity.of_step {s t : State} (hs : s.WithinCapacity) (h : step s = .next t) (ht : t.Capacity) : s.Capacity
  | 0, _, hr => by cases hr; exact hs
  | _ + 1, _, hr => ht _ _ (Reaches.cases_succ h hr)

/-- With no turn left a run keeps to the capacity if the state does. -/
theorem State.Capacity.of_idle {s : State} (hs : s.WithinCapacity) (h : s.turns = []) : s.Capacity :=
  fun _ _ hr => by rw [Reaches.idle h hr]; exact hs

end Sys2Proof.Machine
end

