-- ==== Sys2Proof/Machine/Script.lean ====
section
/-! DEFINITION. Event scripts (30_encoding.md R86) and their pseudo-inputs (R87): each line as the turns it stands for and the answers of the transport to the calls its steps make. No step reads this file. -/

namespace Sys2Proof.Machine

/-- One line of an event script: "one input per line, ... each followed by the transport's answers" (R86). -/
structure ScriptLine where
  turns : List Turn
  answers : List Word
  deriving DecidableEq, Repr

/-- The turn that puts an instruction's record on `EVT`; a wire unit has no record (R81). -/
def recordTurn (cfg : Config) (i : Instr) : List Turn :=
  match encode cfg i with
  | .record r => [.record r]
  | .toDevice _ | .fromDevice _ => []

/-- `cmd write ... (write 1 -> nw)` (R86). -/
def scriptCmdWrite (cfg : Config) (index : Half) (sub node : Byte) (data : Word) (answers : List Word) : ScriptLine :=
  ⟨recordTurn cfg (.cmdWriteObject index sub node data), answers⟩

/-- `cmd read ... (write 1 -> nw)` (R86). -/
def scriptCmdRead (cfg : Config) (index : Half) (sub node : Byte) (answers : List Word) : ScriptLine :=
  ⟨recordTurn cfg (.cmdReadObject index sub node), answers⟩

/-- `cancel tag=...`: "the latch write and the core step that consumes it, with nothing consumed in between" (R86). -/
def scriptCancel (cfg : Config) (tag : Byte) : ScriptLine := ⟨recordTurn cfg (.cancel tag) ++ [.takeCancel], []⟩

/-- `notify rx=... tx=...` and the answers to the calls of the step (R86). -/
def scriptNotify (cfg : Config) (rx tx : Word) (answers : List Word) : ScriptLine :=
  ⟨recordTurn cfg (.notify rx tx) ++ [.takeNotify], answers⟩

/-- `timer gen=...` (R86). -/
def scriptTimer (cfg : Config) (gen : Word) : ScriptLine := ⟨recordTurn cfg (.timerFired gen) ++ [.takeTimer], []⟩

/-- `drain`: `notify rx=0 tx=<P_TX_CAP>` (R87). -/
def scriptDrain (cfg : Config) : ScriptLine := scriptNotify cfg 0 (cfg.txCap.setWidth 32) []

/-- `recv <bytes>`: the bytes arrive, then `notify rx=<count> tx=<P_TX_CAP>` with a full read, and a full write when the
step writes (R87). -/
def scriptRecv (cfg : Config) (u : List Byte) (writes : Bool) : ScriptLine :=
  ⟨.arrive u :: (scriptNotify cfg (BitVec.ofNat 32 u.length) (cfg.txCap.setWidth 32) []).turns,
    BitVec.ofNat 32 u.length :: if writes then [0] else []⟩

/-- `ack <b>`: `recv` of one ack byte (R87). -/
def scriptAck (cfg : Config) (b : Byte) (writes : Bool) : ScriptLine := scriptRecv cfg [b] writes

/-- `expire`: `timer gen=<TMR_GEN>` (R87). -/
def scriptExpire (s : State) : ScriptLine := scriptTimer s.cfg s.tmrGen

/-- A script as the turns and answers still to come of a state (R86). -/
def State.withScript (lines : List ScriptLine) (s : State) : State :=
  { s with turns := (lines.map ScriptLine.turns).flatten, answers := (lines.map ScriptLine.answers).flatten }

end Sys2Proof.Machine
end

