-- ==== Sys2Proof/Tests/Slice0.lean ====
section
/-! SUPPORT. Tests of the model, each expected value taken from spec/ (95_test_vectors.md, or the rule named), and the witnesses: concrete states that meet the hypotheses of the statements, clause by clause. -/

namespace Sys2Proof.Tests

open Sys2Proof.Machine

set_option maxRecDepth 20000
set_option synthInstance.maxSize 4000

/-! ### Helpers -/

/-- The next state, where there is one. -/
def nextOf : Host.Outcome State Fault Refusal → Option State
  | .next t => some t
  | .fault _ => none
  | .refused _ => none

/-- The refusal, where there is one. -/
def refusalOf : Host.Outcome State Fault Refusal → Option Refusal
  | .next _ => none
  | .fault _ => none
  | .refused r => some r

/-- The state after a step, or the state before it where there is none. -/
def after (s : State) : State := (nextOf (step s)).getD s

/-- The body of L1-1: write 100 to 0x2031, subindex 0, node 1. -/
def bodyW : List Byte := [0x03, 0x31, 0x20, 0x00, 0x01, 0x64, 0x00, 0x00, 0x00, 0x8A, 0xC7]

/-- The body of L2-3: read 0x2031, subindex 0, node 1. -/
def bodyR : List Byte := [0x01, 0x31, 0x20, 0x00, 0x01, 0x0F, 0x0B]

/-- A transaction in flight in a state, with tag 0, as L2-9 takes it: generation, thresholds and body given. -/
def flight (st : TransactionState) (gen : Word) (rx tx : Half) (op : Byte) (body : List Byte) : State :=
  { State.reset with
    state := st, opcode := op, outbuf := body ++ List.replicate (16 - body.length) 0, outlen := body.length
    nextTag := 1, rxThr := rx, txThr := tx, trRxThr := rx, trTxThr := tx
    tmrArmed := true, tmrGen := gen, wait := some ⟨gen, st, 1⟩
    history := [.uartSetThreshold 0 0, .admission .admitted 0] }

def sOpcode : State := flight .sendingOpcode 1 0 14 0x11 bodyW
def sBegin : State := flight .waitingBeginAck 2 1 0 0x11 bodyW
def sData : State := flight .sendingData 3 0 14 0x11 bodyW
def sEnd : State := flight .waitingEndAck 4 1 0 0x11 bodyW
def sEndR : State := flight .waitingEndAck 4 1 0 0x10 bodyR
def sLen : State := flight .waitingResponseLength 5 3 0 0x10 bodyR
def sRsp : State := { flight .waitingResponseData 6 6 0 0x10 bodyR with rspLenM1 := 1, declLen := 4 }
def sRack : State :=
  { flight .sendingResponseAck 7 0 14 0x10 bodyR with
    rspLenM1 := 1, declLen := 4, inlen := 4, inbuf := [0x64, 0, 0, 0] ++ List.replicate 12 0 }

/-- A latched notification about to be consumed, the bytes the transport holds and its answers. -/
def notified (rx tx : Word) (bytes : List Byte) (answers : List Word) (s : State) : State :=
  { s with ntfPend := true, ntfRx := rx, ntfTx := tx, trRx := bytes, answers := answers, turns := [.takeNotify] }

/-- A state about to take one turn. -/
def turn (t : Turn) (s : State) : State := { s with turns := [t] }

/-! ### WellFormed: an ill-formed term for each check -/

/-- R76: 0x4F is the accept byte, no reject. -/
theorem test_wf_ackReject : (Instr.ackReject 0x4F).WellFormed Config.reference = false ∧ (Instr.ackReject 0x4E).WellFormed Config.reference = true := by
  decide

/-- R73, R74: an even count of data bytes, at least 2, at most 512. -/
theorem test_wf_rspData :
    (Instr.rspData [1, 2, 3] 0).WellFormed Config.reference = false ∧ (Instr.rspData [] 0).WellFormed Config.reference = false ∧
      (Instr.rspData (List.replicate 514 0) 0).WellFormed Config.reference = false ∧ (Instr.rspData [1, 2] 0).WellFormed Config.reference = true := by
  decide

/-- R74: a header of `P_RSP_HDR_LEN` bytes, 3. -/
theorem test_wf_rspHeader :
    (Instr.rspHeader ⟨1, [0]⟩ 0x1189).WellFormed Config.reference = false ∧
      (Instr.rspHeader ⟨1, []⟩ 0x1189).WellFormed Config.reference = true := by decide

/-- R83: KIND 4 is TIMER_FIRED, no reserved kind. -/
theorem test_wf_reservedKind :
    (Instr.reservedKind 4 0).WellFormed Config.reference = false ∧ (Instr.reservedKind 5 0).WellFormed Config.reference = true := by decide

/-! ### Decoding: words written out from the spec's encodings -/

/-- R80: the two opcode bytes, alone on the link. -/
theorem test_decode_opcodes :
    decodeUnit Config.reference [0x11, 0x03] = .ok (.writeObject, [0x03]) ∧ decodeUnit Config.reference [0x10] = .ok (.readObject, []) := by decide

/-- R71, L2-2 row 4: field by field, little-endian. -/
theorem test_decode_writeBody :
    decodeUnit Config.reference [0x03, 0x34, 0x12, 0x56, 0x78, 0xF0, 0xDE, 0xBC, 0x9A, 0x3C, 0x06] =
      .ok (.writeBody 0x1234 0x56 0x78 0x9ABCDEF0 0x063C, []) := by decide

/-- R72, L2-3 row 4. -/
theorem test_decode_readBody :
    decodeUnit Config.reference [0x01, 0x41, 0x60, 0x00, 0x01, 0x3C, 0x57] = .ok (.readBody 0x6041 0 1 0x573C, []) := by decide

/-- R76: the accept byte and its neighbours (L2-4). -/
theorem test_decode_ack :
    decodeReply Config.reference .ack [0x4F] = .ok .ackAccept ∧ decodeReply Config.reference .ack [0x4E] = .ok (.ackReject 0x4E) ∧
      decodeReply Config.reference .ack [0x50] = .ok (.ackReject 0x50) := by decide

/-- R74, L2-5: length byte, then the checksum with its low byte first. -/
theorem test_decode_rspHeader : decodeReply Config.reference (.header 3) [0x05, 0xAD, 0x57] = .ok (.rspHeader ⟨0x05, []⟩ 0x57AD) := by decide

/-- R75, L2-6: the data, then the checksum with its low byte first. -/
theorem test_decode_rspData :
    decodeReply Config.reference (.data 2) [0xAB, 0xCD, 0xBE, 0x56] = .ok (.rspData [0xAB, 0xCD] 0x56BE) ∧
      decodeReply Config.reference (.data 2) [0xAB, 0xCD, 0xBE] = .error .wrongLength := by decide

/-- R76, R79: the response-ack byte, and a byte that opens no unit the block sends. -/
theorem test_decode_responseAck :
    decodeUnit Config.reference [0x4F] = .ok (.responseAck, []) ∧ decodeUnit Config.reference [0x12] = .error (.notAUnit 0x12) := by decide

/-- R81, L2-14: each record, from its 17 hexadecimal digits. -/
theorem test_decode_records :
    decodeRecord 0x0000000F010060400#68 = .ok (.cmdWriteObject 0x6040 0 1 0x0F) ∧
      decodeRecord 0x00000000010060411#68 = .ok (.cmdReadObject 0x6041 0 1) ∧
      decodeRecord 0x00000000000000012#68 = .ok (.cancel 1) ∧
      decodeRecord 0xFFFFFFFFFFFFFFFF3#68 = .ok (.notify 0xFFFFFFFF 0xFFFFFFFF) ∧
      decodeRecord 0x00000000000000014#68 = .ok (.timerFired 1) := by decide

/-- R83, L2-14: KIND 5, CANCEL with bit 12 set, and a read with a non-zero upper field. -/
theorem test_decode_reserved :
    decodeRecord 0x00000000000000005#68 = .ok (.reservedKind 5 0) ∧
      decodeRecord 0x00000000000001002#68 = .error (.reservedField 2) ∧
      decodeRecord 0x00000001010020311#68 = .error (.reservedField 1) := by decide

/-! ### The codec -/

/-- R101, L2-1: the table form agrees on a register and a byte that are not zero, in both orders. -/
theorem test_crc_table :
    crcStepTable .lsbFirst 0xC78A 0x64 = crcStep .lsbFirst 0xC78A 0x64 ∧
      crcStepTable .msbFirst 0x801C 0x64 = crcStep .msbFirst 0x801C 0x64 ∧ crcStep .lsbFirst 0 0x4F = 0xBAF3 ∧
      crcStep .msbFirst 0 0xFF = 0x1EF0 := by decide

/-- L2-7: each kind of answer of `DEC_REQ`. -/
theorem test_decReq :
    decReq Config.reference 0x11 bodyW = .write 0x2031 0 1 100 ∧ decReq Config.reference 0x10 bodyR = .read 0x2031 0 1 ∧
      decReq Config.reference 0x11 (bodyW.set 10 0xC8) = .checksumError ∧ decReq Config.reference 0x11 (bodyW.take 10) = .malformed ∧
      decReq Config.reference 0x11 (bodyW.set 0 2) = .malformed ∧ decReq Config.reference 0x12 bodyW = .malformed := by decide

/-! ### One step of each instruction -/

/-- L2-8 row 1: the registers and the calls of an admitted write. -/
theorem test_cmdWriteObject_admitted :
    (nextOf (exec (.cmdWriteObject 0x2031 0 1 100) { State.reset with answers := [0] })).map
        (fun t => (t.state, t.outbuf.take 11, t.nextTag, t.txThr, t.history.drop 1)) =
      some (.sendingOpcode, bodyW, 1, 14,
        [.uartWrite [0x11] 0, .uartSetThreshold 0 14, .timerArm 1 .sendingOpcode, .admission .admitted 0]) := by decide

/-- L2-8 rows 2 and 7: `SerialBufferFull`, and `DriverBusy` with no call. -/
theorem test_cmdWriteObject_refused :
    (nextOf (exec (.cmdWriteObject 0x6040 0 1 0x0F) { State.reset with answers := [1] })).map (·.history.drop 1) =
        some [.uartWrite [0x11] 1, .admission .serialBufferFull 0] ∧
      (nextOf (exec (.cmdWriteObject 0x6040 0 1 0x0F) sEnd)).map (·.history.drop 2) =
        some [.admission .driverBusy 0] := by decide

/-- R171's example: with `NEXT_TAG = 5`. -/
theorem test_cmdReadObject_admitted :
    (nextOf (exec (.cmdReadObject 0x2031 0 1) { State.reset with nextTag := 5, answers := [0] })).map
        (fun t => (t.tag, t.outbuf.take 7, t.outlen, t.nextTag)) = some (5, bodyR, 7, 6) := by decide

/-- L2-8 last row: `P_READ_PATH = refused`. -/
theorem test_cmdReadObject_refused :
    refusalOf (exec (.cmdReadObject 0x2031 0 1)
        { State.reset with cfg := { Config.reference with readPath := .refused } }) = some .readPathRefused := by decide

/-- R194, R191, R193: the three latches, each by its own record. -/
theorem test_latches :
    (nextOf (exec (.cancel 5) State.reset)).map (fun t => (t.canPend, t.canTag)) = some (true, 5) ∧
      (nextOf (exec (.notify 1 14) State.reset)).map (fun t => (t.ntfPend, t.ntfRx, t.ntfTx)) = some (true, 1, 14) ∧
      (nextOf (exec (.timerFired 2) State.reset)).map (fun t => (t.tmfPend, t.tmfGen)) = some (true, 2) := by decide

/-- L2-9: the body is submitted; 3 bytes of 4 stay in the transport (D25). -/
theorem test_ackAccept_begin :
    (fun t => (t.state, t.trRx, t.trTx, t.txThr, t.tmrGen)) (after (notified 4 14 [0x4F, 7, 8, 9] [1, 0] sBegin)) =
      (.sendingData, [7, 8, 9], bodyW, 14, 3) := by decide

/-- L2-9: the end-ack of a write and of a read. -/
theorem test_ackAccept_end :
    (after (notified 1 14 [0x4F] [1] sEnd)).history.drop 2 =
        [.uartRead 1 1 [0x4F], .timerDisarm, .uartSetThreshold 0 0, .complete 0 .success []] ∧
      (fun t => (t.state, t.rxThr)) (after (notified 1 14 [0x4F] [1] sEndR)) = (.waitingResponseLength, 3) := by decide

/-- L1-6: begin-ack `'X'`; buffers cleared. -/
theorem test_ackReject_begin :
    (fun t => (t.state, t.outbuf, t.history.getLast?)) (after (notified 1 14 [0x58] [1] sBegin)) =
      (.ready, List.replicate 16 0, some (.complete 0 .protocolNack [])) := by decide

/-- L2-9: the header `05 AD 57`, the largest accepted, and `06 36 65`, too long. -/
theorem test_rspHeader_bounds :
    (fun t => (t.state, t.declLen, t.rxThr)) (after (notified 3 14 [0x05, 0xAD, 0x57] [3] sLen)) =
        (.waitingResponseData, 12, 14) ∧
      (after (notified 3 14 [0x06, 0x36, 0x65] [3] sLen)).history.getLast? = some (.complete 0 .checksumError []) := by
  decide

/-- L2-9: the data of the worked example, and the same with one bit changed. -/
theorem test_rspData_example :
    (fun t => (t.state, t.inbuf.take 4, t.inlen, t.trTx))
        (after (notified 6 14 [0x64, 0, 0, 0, 0x4C, 0xE0] [6, 0] sRsp)) =
        (.sendingResponseAck, [0x64, 0, 0, 0], 4, [0x4F]) ∧
      (fun t => (t.trTx, t.history.getLast?)) (after (notified 6 14 [0x64, 0, 0, 0, 0x4C, 0xE1] [6] sRsp)) =
        ([], some (.complete 0 .checksumError [])) := by decide

/-- R70: each unit the block sends reaches the device; the truncated body of R250 leaves byte by byte. -/
theorem test_sent_units :
    (after (turn .unitOut { sData with trTx := bodyW ++ [0x4F] })).delivered = bodyW ∧
      (after (turn .unitOut { sOpcode with trTx := [0x11] })).delivered = [0x11] ∧
      (after (turn .unitOut { sRack with trTx := [0x4F] })).delivered = [0x4F] ∧
      (after (turn .unitOut { sBegin with trTx := bodyW.take 8 })).delivered = [0x03] := by decide

/-- I8, R190: an answer of 2 to a write of 1 byte leaves nothing known of the transport's buffers and thresholds. -/
theorem test_anomaly (fill : List Byte) :
    (fun t : State => (t.trRx, t.trTx, t.trRxThr, t.trTxThr))
        ({ State.reset with answers := [2], trRx := fill }.uartWrite [0x11]).2 =
      (Config.freeFifo 0, Config.freeFifo 1, Config.freeThreshold 0, Config.freeThreshold 1) := rfl

/-- R83, R202: a reserved kind and a reserved field are refused. -/
theorem test_reserved_refused :
    refusalOf (step (turn (.record 0x0000000000000000F#68) State.reset)) = some .reservedKind ∧
      refusalOf (step (turn (.record 0x00000000000001002#68) State.reset)) = some .reservedField := by decide

/-- L2-9: `tx = 13` is no event in `SendingOpcode`, `tx = 15` is "fully free" (D36), and a negative count never is. -/
theorem test_drain :
    (after (notified 0 13 [] [] sOpcode)).state = .sendingOpcode ∧
      (after (notified 0 15 [] [] sOpcode)).state = .waitingBeginAck ∧
      (after (notified 0xFFFFFFFB 0xFFFFFFFB [] [] sOpcode)).state = .sendingOpcode := by decide

/-- L2-11, L2-12: current and stale fires; the response data of a read in flight is discarded. -/
theorem test_timer_cancel :
    (after (turn .takeTimer { sBegin with tmfPend := true, tmfGen := 1 })).state = .waitingBeginAck ∧
      (after (turn .takeTimer { sRack with tmfPend := true, tmfGen := 7 })).history.getLast? =
        some (.complete 0 .timeout []) ∧
      (after (turn .takeCancel { sOpcode with canPend := true, canTag := 1 })).state = .sendingOpcode ∧
      (after (turn .takeCancel { sOpcode with canPend := true, canTag := 0 })).history.drop 2 =
        [.uartDiscardTx, .timerDisarm, .uartSetThreshold 0 0, .complete 0 .timeout []] := by decide

/-- R8: other parameter values. With `P_ACK = 0x58` the byte 0x4F is a reject; with a header of 4 bytes and the length unit
of a byte, `P_RSP_HDR_LEN` is the threshold and length byte 1 declares 2 bytes. -/
theorem test_parameters :
    (after (notified 1 14 [0x4F] [1] { sBegin with cfg := { Config.reference with ack := 0x58 } })).state = .ready ∧
      (after (notified 1 14 [0x4F] [1] { sEndR with cfg := { Config.reference with rspHdrLen := 4 } })).rxThr = 4 ∧
      (fun t => (t.state, t.declLen, t.rxThr)) (after (notified 4 14 [0x01, 0xAA, 0x89, 0x11] [4]
          { sLen with rxThr := 4, cfg := { Config.reference with rspHdrLen := 4, respFormat := ⟨.byte, .lengthAndData⟩ } })) =
        (.waitingResponseData, 2, 4) := by decide

/-- The literal reading of "the full response frame" (90_conflicts.md C6) covers the length byte, its checksum and the data. -/
theorem test_coverage :
    dataCovered { Config.reference with respFormat := ⟨.word, .fullFrame⟩ } 0x01 [0x64, 0] = [0x01, 0x89, 0x11, 0x64, 0] ∧
      dataCovered Config.reference 0x01 [0x64, 0] = [0x01, 0x64, 0] := by decide

/-- L2-14's output records, and R84's other two results. -/
theorem test_output_records :
    (OutEvent.admission .admitted 0).admRecord = some ⟨0, 0⟩ ∧ (OutEvent.admission .driverBusy 0).admRecord = some ⟨2, 0⟩ ∧
      (OutEvent.complete 0 .success [0x64, 0, 0, 0]).cplRecord = some ⟨0, 0, 4, [0x64, 0, 0, 0]⟩ ∧
      (OutEvent.complete 1 .timeout []).cplRecord = some ⟨1, 3, 0, []⟩ := by decide

/-! ### Witnesses: states and operands that meet a statement's hypotheses, clause by clause -/

/-- `DecodeEncodeRoundTrip`: the operand limits of `WellFormed`, each at its bounds, and the configuration's premise. -/
theorem witness_roundTrip :
    UnitsDistinct Config.reference ∧ (Instr.rspHeader ⟨1, []⟩ 0).WellFormed Config.reference = true ∧
    (Instr.ackReject 0x4E).WellFormed Config.reference = true ∧ (Instr.ackReject 0x50).WellFormed Config.reference = true ∧
      (Instr.rspData [0, 0] 0).WellFormed Config.reference = true ∧ (Instr.rspData (List.replicate 512 0) 0).WellFormed Config.reference = true ∧
      (Instr.reservedKind 5 0).WellFormed Config.reference = true ∧ (Instr.reservedKind 15 0xFFFFFFFFFFFFFFFF).WellFormed Config.reference = true := by
  decide

/-- `TransmittedUnitIsReadBack`, `LinkBuffersAreFifos`: the five units the block sends. -/
theorem witness_units :
    encode Config.reference .writeObject = .toDevice [0x11] ∧ encode Config.reference .readObject = .toDevice [0x10] ∧
      encode Config.reference (.writeBody 0x2031 0 1 100 0xC78A) = .toDevice bodyW ∧
      encode Config.reference (.readBody 0x2031 0 1 0x0B0F) = .toDevice bodyR ∧ encode Config.reference .responseAck = .toDevice [0x4F] := by decide

/-- `DecodedRecordEncodesBack`: a record of every KIND. -/
theorem witness_records :
    decodeRecord 0xFFFFFFFFFFFFFFFF0#68 = .ok (.cmdWriteObject 0xFFFF 0xFF 0xFF 0xFFFFFFFF) ∧
      decodeRecord 0x00000000010020311#68 = .ok (.cmdReadObject 0x2031 0 1) ∧
      decodeRecord 0x00000000000000052#68 = .ok (.cancel 5) ∧ decodeRecord 0x0000000E000000003#68 = .ok (.notify 0 14) ∧
      decodeRecord 0x00000000000000024#68 = .ok (.timerFired 2) ∧
      decodeRecord 0xFFFFFFFFFFFFFFFFF#68 = .ok (.reservedKind 15 0xFFFFFFFFFFFFFFFF) := by decide

/-- `ReservedRecordsAreRefused`: KIND 5 and KIND 15, and each reserved field at its lowest and its highest bit. -/
theorem witness_reserved :
    (0x00000000000000005#68).extractLsb' 0 4 = 5#4 ∧ (0x0000000000000000F#68).extractLsb' 0 4 = 15#4 ∧
      (0x00000001000000001#68).extractLsb' 36 32 = 1#32 ∧ (0x80000000000000001#68).extractLsb' 36 32 = 0x80000000#32 ∧
      (0x00000000000001002#68).extractLsb' 12 56 = 1#56 ∧
      (0x80000000000000002#68).extractLsb' 12 56 = 0x80000000000000#56 ∧
      (0x00000001000000004#68).extractLsb' 36 32 = 1#32 ∧ (0x80000000000000004#68).extractLsb' 36 32 = 0x80000000#32 := by
  decide

/-- `RequestRoundTrip`: both encoders, at the smallest payload limit each accepts. -/
theorem witness_requests :
    encWrite { Config.reference with maxPayload := 9 } 0x2031 0 1 100 = some ⟨0x11, bodyW⟩ ∧
      encRead { Config.reference with maxPayload := 5 } 0x2031 0 1 = some ⟨0x10, bodyR⟩ := by decide

/-- `RequestDecoder`, last part: L1-2's changed byte, and the first and the last byte of a body. -/
theorem witness_oneByte :
    decReq Config.reference 0x11 bodyW ≠ .malformed ∧ decReq Config.reference 0x11 bodyW ≠ .checksumError ∧
      (0x65 : Byte) ≠ bodyW[5] ∧ (0x02 : Byte) ≠ bodyW[0] ∧ (0xC8 : Byte) ≠ bodyW[10] := by decide

/-- The invariant holds after reset and in a write's states (`StepKeepsInvariant`, every statement that assumes it). -/
theorem witness_inv_write : State.reset.Inv ∧ sOpcode.Inv ∧ sBegin.Inv ∧ sData.Inv ∧ sEnd.Inv := by
  refine ⟨?_, ?_, ?_, ?_, ?_⟩ <;> decide

/-- The invariant holds in a read's states. -/
theorem witness_inv_read : sEndR.Inv ∧ sLen.Inv ∧ sRsp.Inv ∧ sRack.Inv := by
  refine ⟨?_, ?_, ?_, ?_⟩ <;> decide

/-- `TransportStaysProgrammed`: the premise holds after reset, in each state of a transaction, and in `Ready` whatever the
thresholds of the transport. -/
theorem witness_programmed :
    (∀ s ∈ [State.reset, sOpcode, sBegin, sData, sEnd, sEndR, sLen, sRsp, sRack], s.Programmed) ∧
      { State.reset with trRxThr := 5, trTxThr := 9 }.Programmed ∧
      (nextOf (step (notified 1 14 [0x4F] [1] sEndR))).map (fun t => (t.trRxThr, t.trTxThr)) = some (3, 0) := by decide

/-- The ledger holds after reset and with one transaction in flight (`OutcomeDeliveredExactlyOnce`). -/
theorem witness_ledger : State.reset.Ledger ∧ sOpcode.Ledger ∧ sRack.Ledger := by decide

/-- Statements about a step that answers a next state: one that stays (a no-op), one that moves on, one that ends and one
that admits; none of them is a reset. Both `TimerFollowsState` and `StateFollowsMatrix` take their cases from these. -/
theorem witness_steps :
    (nextOf (step (notified 0 13 [] [] sOpcode))).map (·.state) = some .sendingOpcode ∧
      (nextOf (step (notified 0 14 [] [] sOpcode))).map (·.state) = some .waitingBeginAck ∧
      (nextOf (step (notified 0 14 [] [] sRack))).map (·.state) = some .ready ∧
      (nextOf (step (turn (.record 0x00000064010020310#68) { State.reset with answers := [0] }))).map (·.state) =
        some .sendingOpcode ∧
      (notified 0 14 [] [] sRack).turns.head? ≠ some .reset := by decide

/-- `CompletionRecords`: a `Success` with data, and a `ChecksumError`. -/
theorem witness_completion :
    (nextOf (step (notified 0 14 [] [] sRack))).map (·.history) =
        some (sRack.history ++ [.timerDisarm, .uartSetThreshold 0 0, .complete 0 .success [0x64, 0, 0, 0]]) ∧
      (nextOf (step (notified 3 14 [0x01, 0x89, 0x12] [3] sLen))).map (·.history) =
        some (sLen.history ++ [.uartRead 3 3 [0x01, 0x89, 0x12], .timerDisarm, .uartSetThreshold 0 0,
          .complete 0 .checksumError []]) := by decide

/-- `ReceiveBufferIsNeverFlushed`: with two bytes received, a cancel, which makes no call to read or write, and a command whose
opcode byte is not taken, an answer at the bound of the contract. -/
theorem witness_noFlush :
    (nextOf (step (turn .takeCancel { sBegin with canPend := true, trRx := [1, 2] }))).map
        (fun t => (t.history, t.trRx)) =
      some (sBegin.history ++ [.uartDiscardTx, .timerDisarm, .uartSetThreshold 0 0, .complete 0 .timeout []],
        [1, 2]) ∧
    (nextOf (step (turn (.record 0x00000064010020310#68) { State.reset with answers := [1], trRx := [1, 2] }))).map
        (fun t => (t.history.drop 1, t.trRx)) =
      some ([.uartWrite [0x11] 1, .admission .serialBufferFull 0], [1, 2]) := by decide

/-- `LatchWaitsForItsTurn`: all three latches pending while bytes arrive. -/
theorem witness_latches :
    (nextOf (step (turn (.arrive [1]) { sBegin with ntfPend := true, tmfPend := true, canPend := true }))).map
        (fun t => (t.ntfPend, t.tmfPend, t.canPend)) = some (true, true, true) ∧
      (turn (.arrive [1]) sBegin).turns.head? ≠ some .takeNotify ∧
      (turn (.arrive [1]) sBegin).turns.head? ≠ some .takeTimer ∧
      (turn (.arrive [1]) sBegin).turns.head? ≠ some .takeCancel := by decide

/-- `StepRunsDecodedInstruction`: a unit that leaves, and a reply that is read (a record: `witness_records`). -/
theorem witness_fetch :
    decodeUnit Config.reference (sData.trTx ++ bodyW ++ [1]) = .ok (.writeBody 0x2031 0 1 100 0xC78A, [1]) ∧
      meets 1 sBegin.rxThr = true ∧ sBegin.expects = some .ack ∧
      ((notified 1 14 [0x4F] [1] sBegin).uartRead 1).1.toInt = 1 ∧
      decodeReply Config.reference .ack ((notified 1 14 [0x4F] [1] sBegin).uartRead 1).2.1 = .ok .ackAccept := by decide

/-- `TransportCalls`: counts at the bounds of the contract, one past each, and both sources of a count. -/
theorem witness_transport :
    ({ sBegin with answers := [0] }).answers = [0] ∧ sBegin.answers = [] ∧ (0 ≤ (0 : Word).toInt ∧ (0 : Word).toInt ≤ 11) ∧ (0 ≤ (11 : Word).toInt ∧ (11 : Word).toInt ≤ 11) ∧
      (-1 : Word).toInt < 0 ∧ 11 < (12 : Word).toInt ∧ 0 < (1 : Word).toInt := by decide

/-- `WriteObjectAdmission`, `ReadObjectAdmission`, `AnomalousOpcodeWrite`: each branch, the payload limits at their bounds. -/
theorem witness_admission :
    sEnd.state ≠ .ready ∧ State.reset.state = .ready ∧ Config.reference.readPath = .enabled ∧
      ({ State.reset with answers := [0] }).answer.1 = 0 ∧ ({ State.reset with answers := [1] }).answer.1 = 1 ∧
      ({ State.reset with answers := [2] }).answer.1 ≠ 0 ∧ ({ State.reset with answers := [2] }).answer.1 ≠ 1 ∧
      ({ State.resetWith { Config.reference with maxPayload := 9 } with answers := [0] }).Inv ∧
      ({ State.resetWith { Config.reference with maxPayload := 5 } with answers := [0] }).Inv ∧
      (State.resetWith { Config.reference with maxPayload := 8 }).cfg.maxPayload < 9 ∧
      (State.resetWith { Config.reference with maxPayload := 4 }).cfg.maxPayload < 5 ∧
      (State.resetWith { Config.reference with readPath := .refused }).cfg.readPath = .refused := by decide

/-- `LinkBuffersAreFifos`: the unit at the front, with a byte after it. -/
theorem witness_fifo :
    { sData with trTx := bodyW ++ [1], turns := [.unitOut] }.trTx = bodyW ++ [1] ∧
      { sData with trTx := 7 :: bodyW, turns := [.byteOut] }.trTx = 7 :: bodyW := by decide

/-- `AckAcceptMeaning`, `AckRejectMeaning`: both ack states, a write and a read, both kinds of answer, another state. -/
theorem witness_ack :
    sBegin.state = .waitingBeginAck ∧ ({ sBegin with answers := [0] }).answer.1 = 0 ∧
      ({ sBegin with answers := [11] }).answer.1 ≠ 0 ∧ sEnd.state = .waitingEndAck ∧ sEnd.opcode = sEnd.cfg.opWrite ∧
      sEndR.state = .waitingEndAck ∧ sEndR.opcode ≠ sEndR.cfg.opWrite ∧ sLen.state ≠ .waitingBeginAck ∧
      sLen.state ≠ .waitingEndAck ∧ (0x4E : Byte) ≠ 0x4F ∧ (0x50 : Byte) ≠ 0x4F := by decide

/-- `RspHeaderMeaning`, `ResponseHeaderRule`, `ReplyDecoders`: length bytes 5 and 6, on both sides of the limit of 14, and a bad checksum. -/
theorem witness_header :
    sLen.state = .waitingResponseLength ∧ (0x57AD : Half) = crc16 .lsbFirst [0x05] ∧ 1 + 2 * (5 + 1) ≤ 14 ∧
      (0x6536 : Half) = crc16 .lsbFirst [0x06] ∧ 14 < 1 + 2 * (6 + 1) ∧ (0x1289 : Half) ≠ crc16 .lsbFirst [0x01] := by
  decide

/-- `RspDataMeaning`, `ResponseDataRule`: good and bad checksums, both kinds of answer, a unit of the wrong length. -/
theorem witness_data :
    sRsp.state = .waitingResponseData ∧ [0x64, 0, 0, (0 : Byte)].length = sRsp.declLen ∧
      (0xE04C : Half) = crc16 .lsbFirst [0x01, 0x64, 0, 0, 0] ∧ (0xE14C : Half) ≠ crc16 .lsbFirst [0x01, 0x64, 0, 0, 0] ∧
      ({ sRsp with answers := [0] }).answer.1 = 0 ∧ ({ sRsp with answers := [1] }).answer.1 ≠ 0 ∧
      [0x64, (0 : Byte)].length ≠ sRsp.declLen ∧ sLen.state ≠ .waitingResponseData := by decide

/-- `DrainedBufferMovesOn`: the count at the threshold, in the three Sending states. -/
theorem witness_drain :
    Config.reference.txCap ≠ 0 ∧ (Config.reference.txCap.toNat : Int) ≤ (14 : Word).toInt ∧
      sOpcode.state = .sendingOpcode ∧ sData.state = .sendingData ∧ sRack.state = .sendingResponseAck ∧
      (notified 0 14 [] [] sOpcode).ntfPend = true ∧ (notified 0 14 [] [] sOpcode).turns = [.takeNotify] := by decide

/-- `AdmissionRecords`: an admitted command and a busy one (R170). -/
theorem witness_admRecords :
    (nextOf (step (turn (.record 0x00000064010020310#68) { State.reset with answers := [0] }))).map
        (·.history.getLast?) = some (some (.admission .admitted 0)) ∧
      (nextOf (step (turn (.record 0x00000064010020310#68) sEnd))).map (·.history) =
        some (sEnd.history ++ [.admission .driverBusy 0]) := by decide

/-- `BeginAckRule`, `EndAckRule`: what the read answers for each branch, at the least count that is an event. -/
theorem witness_ackRules :
    (notified 1 14 [0x4F] [1, 0] sBegin).Inv ∧ 1 ≤ (1 : Word).toInt ∧
      ((notified 1 14 [0x4F] [0] sBegin).uartRead 1).1 ≠ 1 ∧
      (fun x => (x.1, x.2.1)) ((notified 1 14 [0x58] [1] sBegin).uartRead 1) = (1, [0x58]) ∧
      (fun x => (x.1, x.2.1)) ((notified 1 14 [0x4F] [1, 0] sBegin).uartRead 1) = (1, [0x4F]) ∧
      (({ sBegin with answers := [0] }).uartWrite bodyW).1 = 0 ∧
      (({ sBegin with answers := [3] }).uartWrite bodyW).1 ≠ 0 := by decide

/-- `ResponseHeaderRule`, `ResponseDataRule`: the reads, at the least count that is an event. -/
theorem witness_responseRules :
    SpecFormat sLen.cfg ∧ SpecFormat sRsp.cfg ∧ 3 ≤ (3 : Word).toInt ∧ (sRsp.declLen : Int) + 2 ≤ (6 : Word).toInt ∧
      ((notified 3 14 [0x01, 0x89] [2] sLen).uartRead 3).1 ≠ 3 ∧
      (fun x => (x.1, x.2.1)) ((notified 3 14 [0x01, 0x89, 0x11] [3] sLen).uartRead 3) = (3, [0x01, 0x89, 0x11]) ∧
      (fun x => (x.1, x.2.1)) ((notified 6 14 [0x64, 0, 0, 0, 0x4C, 0xE0] [6, 0] sRsp).uartRead 6) =
        (6, [0x64, 0, 0, 0, 0x4C, 0xE0]) ∧
      (0x89 : Byte).toNat + 256 * (0x11 : Byte).toNat = (crc16 .lsbFirst [0x01]).toNat := by decide

/-- A read waiting for a header of `n` bytes, under a `P_RSP_HDR_LEN` of the same value. -/
def sLenOf (n : Half) : State :=
  { sLen with cfg := { sLen.cfg with rspHdrLen := n }, rxThr := n, trRxThr := n }

/-- A read waiting for data whose checksum covers the full frame. -/
def sRspFull : State :=
  { sRsp with cfg := { sRsp.cfg with respFormat := ⟨.word, .fullFrame⟩ } }

/-- `OtherResponseFormats`: headers of 2, 4 and 3 bytes with another length unit, and data under the other coverage. -/
theorem witness_otherFormats :
    (sLenOf 2).Inv ∧ ¬SpecFormat (sLenOf 2).cfg ∧ (sLenOf 4).Inv ∧ ¬SpecFormat (sLenOf 4).cfg ∧
      (fun x => (x.1, x.2.1)) ((notified 4 14 [0x01, 0xAA, 0x89, 0x11] [4] (sLenOf 4)).uartRead 4) =
        (4, [0x01, 0xAA, 0x89, 0x11]) ∧
      { sLen with cfg := { sLen.cfg with respFormat := ⟨.byte, .lengthAndData⟩ } }.Inv ∧
      sRspFull.Inv ∧ ¬SpecFormat sRspFull.cfg ∧ sRspFull.state = .waitingResponseData := by decide

/-- `TimerFireRule`, `CancelRule`, `DefinedNoOps`: a current fire and a stale one, the tag in flight and another, counts
just below each threshold. -/
theorem witness_fires :
    (sBegin.tmrArmed = true ∧ (2 : Word) = sBegin.tmrGen) ∧ (1 : Word) ≠ sBegin.tmrGen ∧
      State.reset.tmrArmed = false ∧ (sBegin.state ≠ .ready ∧ (0 : Byte) = sBegin.tag) ∧ (1 : Byte) ≠ sBegin.tag ∧
      State.reset.state = .ready ∧ (0 : Word).toInt < (sBegin.rxThr.toNat : Int) ∧ sBegin.txThr = 0 ∧
      (13 : Word).toInt < (sOpcode.txThr.toNat : Int) ∧ sOpcode.rxThr = 0 := by decide

/-- `PartialBodyStaysBehind`: one byte not taken, and none taken. -/
theorem witness_partial :
    sBegin.Inv ∧ (0 < (1 : Word).toInt ∧ (1 : Word).toInt ≤ (sBegin.outlen : Int)) ∧
      (0 < (11 : Word).toInt ∧ (11 : Word).toInt ≤ (sBegin.outlen : Int)) := by decide

/-- `DueNotificationIsTheEvent`: exactly the bytes the threshold asks for, and a transmit buffer just empty. -/
theorem witness_due :
    (notified 6 14 [1, 2, 3, 4, 5, 6] [] sRsp).Inv ∧ (notified 6 14 [1, 2, 3, 4, 5, 6] [] sRsp).Programmed ∧
      sRsp.state ≠ .ready ∧ (notified 6 14 [1, 2, 3, 4, 5, 6] [] sRsp).rxDue ∧
      (notified 6 14 [1, 2, 3, 4, 5, 6] [] sRsp).ntfRx.toInt =
        ((notified 6 14 [1, 2, 3, 4, 5, 6] [] sRsp).trRx.length : Int) ∧
      (notified 0 14 [] [] sOpcode).Inv ∧ (notified 0 14 [] [] sOpcode).Programmed ∧ sOpcode.state ≠ .ready ∧
      (notified 0 14 [] [] sOpcode).txDue ∧
      (notified 0 14 [] [] sOpcode).ntfTx.toInt = (notified 0 14 [] [] sOpcode).txFreeCount := by decide

/-- The opcode byte leaves, and the transport notifies. -/
def sLevel : State := { sOpcode with trTx := [0x11], turns := [.unitOut, .record 0x0000000E000000003#68] }

/-- The three states of that run, and that the second makes the condition true without setting a threshold. -/
theorem witness_level_run :
    step sLevel = .next (after sLevel) ∧ step (after sLevel) = .next (after (after sLevel)) ∧
      (after (after sLevel)).turns = [] ∧ sLevel.Inv ∧ sLevel.Programmed ∧ ¬sLevel.due ∧ (after sLevel).due ∧ (after sLevel).state ≠ .ready := by
  refine ⟨rfl, rfl, ?_⟩
  decide

/-- `AwaitedEventIsNotified`: a run that meets A-LEVEL. -/
theorem witness_level : sLevel.ALevel := by
  have hn : (after sLevel).Notifies := ⟨_, [], 0, 14, rfl, by decide, by decide, by decide⟩
  have hd : (after sLevel).due := by decide
  obtain ⟨h0, h1, h2, -⟩ := witness_level_run
  intro j t u hr hs hu hc
  match j with
  | 0 => cases hr; cases hs.symm.trans h0; exact ⟨0, _, rfl, .inl hn⟩
  | 1 =>
    cases Reaches.cases_succ h0 hr
    cases hs.symm.trans h1
    exact hc.elim (absurd hd) fun hc => absurd rfl hc.history_ne
  | j + 2 =>
    cases Reaches.idle h2 (Reaches.cases_succ h1 (Reaches.cases_succ h0 hr))
    cases hs.symm.trans (step_idle h2)
    exact hc.elim (absurd hu) fun hc => absurd rfl hc.history_ne

/-- A wait that runs out: the fire is raised and consumed. -/
def sFair : State := { sBegin with turns := [.record 0x00000000000000024#68, .takeTimer] }

/-- `EveryTransactionEnds`: a run that meets the timer's fairness. -/
theorem witness_fair : sFair.Inv ∧ sFair.state ≠ .ready ∧ sFair.TimerFair := by
  refine ⟨by decide, by decide, ?_⟩
  have h0 : step sFair = .next (after sFair) := rfl
  have h1 : step (after sFair) = .next (after (after sFair)) := rfl
  intro j t hr ht
  match j with
  | 0 => cases hr; exact ⟨1, _, Reaches.single h0, .inr (.inr (by decide))⟩
  | 1 => cases Reaches.cases_succ h0 hr; exact ⟨0, _, rfl, .inr (.inr (by decide))⟩
  | j + 2 =>
    cases Reaches.idle (by decide) (Reaches.cases_succ h1 (Reaches.cases_succ h0 hr))
    exact absurd ht (by decide)

/-- A write that reads its begin-ack, under a `P_TX_CAP` of 10: the transport takes 10 of the body's 11 bytes. -/
def sSmall : State :=
  notified 1 10 [0x4F] [1, 1] { sBegin with cfg := { sBegin.cfg with txCap := 10 }, trCap := 10 }

/-- `SmallTransmitBufferFailsWrites`: a run that keeps to that capacity, with `P_TX_CAP` one below the bound. -/
theorem witness_small :
    sSmall.Inv ∧ sSmall.Capacity ∧ sSmall.cfg.opWrite ≠ sSmall.cfg.opRead ∧ sSmall.trCap ≤ sSmall.cfg.txCap.toNat ∧
      sSmall.cfg.txCap.toNat < 11 ∧ sSmall.state = .waitingBeginAck ∧ sSmall.opcode = sSmall.cfg.opWrite ∧
      (fun x => (x.1, x.2.1)) (sSmall.uartRead 1) = (1, [sSmall.cfg.ack]) :=
  ⟨by decide, State.Capacity.of_step (by decide) (t := after sSmall) rfl (State.Capacity.of_idle (by decide) rfl), by decide⟩

/-- A write whose opcode byte is on its way, under a true capacity one below `P_TX_CAP`: the whole capacity is reported
free, the wait runs out, and its fire is consumed. -/
def sLarge : State :=
  { sOpcode with
    trCap := 13, ntfPend := true, ntfTx := 13, turns := [.takeNotify, .record 0x00000000000000014#68, .takeTimer] }

/-- `LargeTxCapTimesOut`: a run that keeps to that capacity and meets the timer's fairness. -/
theorem witness_large :
    sLarge.Inv ∧ sLarge.Capacity ∧ sLarge.trCap < sLarge.cfg.txCap.toNat ∧ sLarge.state = .sendingOpcode ∧
      sLarge.ntfPend = true ∧ sLarge.TimerFair := by
  have h0 : step sLarge = .next (after sLarge) := rfl
  have h1 : step (after sLarge) = .next (after (after sLarge)) := rfl
  have h2 : step (after (after sLarge)) = .next (after (after (after sLarge))) := rfl
  refine ⟨by decide, .of_step (by decide) h0 (.of_step (by decide) h1 (.of_step (by decide) h2 (.of_idle (by decide) rfl))),
    by decide, by decide, by decide, fun j t hr ht => ?_⟩
  match j with
  | 0 => cases hr; exact ⟨2, _, (Reaches.single h0).trans (Reaches.single h1), .inr (.inr (by decide))⟩
  | 1 => cases Reaches.cases_succ h0 hr; exact ⟨1, _, Reaches.single h1, .inr (.inr (by decide))⟩
  | 2 => cases Reaches.cases_succ h1 (Reaches.cases_succ h0 hr); exact ⟨0, _, rfl, .inr (.inr (by decide))⟩
  | j + 3 =>
    cases Reaches.idle (by decide) (Reaches.cases_succ h2 (Reaches.cases_succ h1 (Reaches.cases_succ h0 hr)))
    exact absurd ht (by decide)

/-- `ResetSetsEveryRegister`, `ResetLeavesTheOutside`, `LatchedRecordsFromBits`, `BlockWaitsInReady`: the turn each of them names. -/
theorem witness_turns :
    (turn .reset sEnd).turns = [.reset] ∧ (turn .takeNotify State.reset).turns = [.takeNotify] ∧
      (turn .takeTimer State.reset).turns = [.takeTimer] ∧ (turn .takeCancel State.reset).turns = [.takeCancel] ∧
      (turn (.record ((14 : Word) ++ (0 : Word) ++ 3#4)) State.reset).turns = [.record 0x0000000E000000003#68] ∧
      (turn (.record (0#32 ++ (2 : Word) ++ 4#4)) State.reset).turns = [.record 0x00000000000000024#68] ∧
      (turn (.record (0#56 ++ (5 : Byte) ++ 2#4)) State.reset).turns = [.record 0x00000000000000052#68] ∧
      State.reset.turns = [] := by decide

/-- `NotifyWritesLatch`, second part: two notifications in a row (L2-10). -/
theorem witness_coalesce :
    (nextOf (exec (.notify 0 14) ((nextOf (exec (.notify 0 3) sOpcode)).getD sOpcode))).map (·.ntfTx) = some 14 := by
  decide

end Sys2Proof.Tests
end

section
/-! Proofs about the records of the input port `EVT` (30_encoding.md R81, R83): what a record in the fetch does to the step,
which records the decoder rejects, and that a command's fields are read back. -/

namespace Sys2Proof.Machine

/-! ### A record in the fetch -/

theorem step_record_of_ok {s : State} {r : Record} {rest : List Turn} {i : Instr} (hs : s.turns = .record r :: rest)
    (hd : decodeRecord r = .ok i) : step s = exec i { s with turns := rest } := by
  simp [step, State.fetch, hs, State.takeTurn, State.takeRecord, hd]

theorem step_record_of_error {s : State} {r : Record} {rest : List Turn} {e : Reject} (hs : s.turns = .record r :: rest)
    (hd : decodeRecord r = .error e) : step s = .refused .reservedField := by
  simp [step, State.fetch, hs, State.takeTurn, State.takeRecord, hd]

/-! ### The decoder on reserved records -/

theorem decodeRecord_of_reservedKind {r : Record} (h : 5 ≤ (r.extractLsb' 0 4).toNat) :
    decodeRecord r = .ok (.reservedKind (r.extractLsb' 0 4) (r.extractLsb' 4 64)) := by
  have ne_of_lt_five (k : BitVec 4) (hk : k.toNat < 5) : r.extractLsb' 0 4 ≠ k := fun e => by rw [e] at h; omega
  simp only [decodeRecord, if_neg (ne_of_lt_five 0 (by decide)), if_neg (ne_of_lt_five 1 (by decide)),
    if_neg (ne_of_lt_five 2 (by decide)), if_neg (ne_of_lt_five 3 (by decide)), if_neg (ne_of_lt_five 4 (by decide))]

theorem decodeRecord_readObject_reserved {r : Record} (hk : r.extractLsb' 0 4 = 1#4) (h : r.extractLsb' 36 32 ≠ 0#32) :
    decodeRecord r = .error (.reservedField 1) := by
  simp [decodeRecord, hk, h]

theorem decodeRecord_cancel_reserved {r : Record} (hk : r.extractLsb' 0 4 = 2#4) (h : r.extractLsb' 12 56 ≠ 0#56) :
    decodeRecord r = .error (.reservedField 2) := by
  simp [decodeRecord, hk, h]

theorem decodeRecord_timerFired_reserved {r : Record} (hk : r.extractLsb' 0 4 = 4#4) (h : r.extractLsb' 36 32 ≠ 0#32) :
    decodeRecord r = .error (.reservedField 4) := by
  simp [decodeRecord, hk, h]

/-! ### The fields of a command record -/

/-- The layout R81 gives the two command records: each field is read back from its place. -/
theorem commandRecord_fields (index : Half) (sub node : Byte) (high : Word) (kind : BitVec 4) :
    let r := high ++ node ++ sub ++ index ++ kind
    r.extractLsb' 0 4 = kind ∧ r.extractLsb' 4 16 = index ∧ r.extractLsb' 20 8 = sub ∧ r.extractLsb' 28 8 = node ∧
      r.extractLsb' 36 32 = high := by
  refine ⟨BitVec.extractLsb'_append_eq_right, ?_, ?_, ?_, ?_⟩
  · rw [BitVec.extractLsb'_append_eq_of_le (by omega)]
    exact BitVec.extractLsb'_append_eq_right
  · iterate 2 rw [BitVec.extractLsb'_append_eq_of_le (by omega)]
    exact BitVec.extractLsb'_append_eq_right
  · iterate 3 rw [BitVec.extractLsb'_append_eq_of_le (by omega)]
    exact BitVec.extractLsb'_append_eq_right
  · iterate 3 rw [BitVec.extractLsb'_append_eq_of_le (by omega)]
    exact BitVec.extractLsb'_append_eq_left

theorem decodeRecord_cmdWriteObject (index : Half) (sub node : Byte) (data : Word) :
    decodeRecord (data ++ node ++ sub ++ index ++ 0#4) = .ok (.cmdWriteObject index sub node data) := by
  obtain ⟨hkind, hindex, hsub, hnode, hdata⟩ := commandRecord_fields index sub node data 0#4
  simp [decodeRecord, hkind, hindex, hsub, hnode, hdata]

theorem decodeRecord_cmdReadObject (index : Half) (sub node : Byte) :
    decodeRecord (0#32 ++ node ++ sub ++ index ++ 1#4) = .ok (.cmdReadObject index sub node) := by
  obtain ⟨hkind, hindex, hsub, hnode, hzero⟩ := commandRecord_fields index sub node 0#32 1#4
  simp [decodeRecord, hkind, hindex, hsub, hnode, hzero]

/-- Settles O4: a reserved KIND decodes to RESERVED_KIND, whose meaning is a refusal; a non-zero reserved field does not
decode; and the fields of a command are read back at every value. -/
theorem reservedRecordsAreRefused : Obligations.ReservedRecordsAreRefused := by
  refine ⟨fun s r rest hs => ⟨fun h => ?_, fun hk h => ?_, fun hk h => ?_, fun hk h => ?_⟩, fun _ _ _ => rfl,
    decodeRecord_cmdWriteObject, decodeRecord_cmdReadObject⟩
  · exact step_record_of_ok hs (decodeRecord_of_reservedKind h)
  · exact step_record_of_error hs (decodeRecord_readObject_reserved hk h)
  · exact step_record_of_error hs (decodeRecord_cancel_reserved hk h)
  · exact step_record_of_error hs (decodeRecord_timerFired_reserved hk h)

end Sys2Proof.Machine
end

section
/-! Proofs about the output port `ADM` (30_encoding.md R84): only the admission of a command puts a record there, so every
answer a step adds is one that `State.admission` gives. -/

namespace Sys2Proof.Machine

/-- The outputs of a history that put a record on `ADM` (R84), in their order. -/
def admAnswers (h : List OutEvent) : List OutEvent := h.filter fun e => e.admRecord.isSome

@[simp] theorem admAnswers_append (h out : List OutEvent) : admAnswers (h ++ out) = admAnswers h ++ admAnswers out :=
  List.filter_append ..

theorem admission_mem_admAnswers {out : List OutEvent} {res : AdmResult} {tag : Byte} :
    .admission res tag ∈ admAnswers out ↔ .admission res tag ∈ out := by
  simp [admAnswers, OutEvent.admRecord]

@[simp] theorem admAnswers_nil : admAnswers [] = [] := rfl

@[simp] theorem admAnswers_cons (e : OutEvent) (out : List OutEvent) :
    admAnswers (e :: out) = if e.admRecord.isSome then e :: admAnswers out else admAnswers out := by
  simp [admAnswers, List.filter_cons]

@[simp] theorem admAnswers_disarmOut (s : State) : admAnswers s.disarmOut = [] := by
  cases h : s.tmrArmed <;> simp [State.disarmOut, h, OutEvent.admRecord]

/-! ### The operations that put no record on `ADM` -/

@[simp] theorem State.uartWrite_admAnswers (bytes : List Byte) (s : State) :
    admAnswers (s.uartWrite bytes).2.history = admAnswers s.history := by
  obtain ⟨_, _, _, _, _, _, _, h⟩ := s.uartWrite_frame bytes
  simp [h, OutEvent.admRecord]

@[simp] theorem State.uartWrite_state (bytes : List Byte) (s : State) : (s.uartWrite bytes).2.state = s.state := by
  obtain ⟨_, _, _, _, _, _, _, h⟩ := s.uartWrite_frame bytes
  rw [h]

@[simp] theorem State.uartRead_admAnswers (n : Nat) (s : State) :
    admAnswers (s.uartRead n).2.2.history = admAnswers s.history := by
  obtain ⟨_, _, _, _, _, _, _, h⟩ := s.uartRead_frame n
  simp [h, OutEvent.admRecord]

@[simp] theorem State.uartRead_state (n : Nat) (s : State) : (s.uartRead n).2.2.state = s.state := by
  obtain ⟨_, _, _, _, _, _, _, h⟩ := s.uartRead_frame n
  rw [h]

@[simp] theorem State.uartDiscardTx_admAnswers (s : State) :
    admAnswers s.uartDiscardTx.history = admAnswers s.history := by
  obtain ⟨_, _, h⟩ := s.uartDiscardTx_frame
  simp [h, OutEvent.admRecord]

@[simp] theorem State.enter_admAnswers (st : TransactionState) (s : State) :
    admAnswers (s.enter st).history = admAnswers s.history := by
  by_cases h : st = .ready
  · subst h
    simp [State.enter_ready, OutEvent.admRecord]
  · simp [State.enter_busy h, OutEvent.admRecord]

@[simp] theorem State.finish_admAnswers (o : TermOutcome) (p : List Byte) (s : State) :
    admAnswers (s.finish o p).history = admAnswers s.history := by
  simp [State.finish_eq, OutEvent.admRecord]

@[simp] theorem State.abort_admAnswers (c : FailCode) (s : State) :
    admAnswers (s.abort c).history = admAnswers s.history := by
  rw [State.abort_eq, State.finish_admAnswers]

@[simp] theorem State.submit_admAnswers (bytes : List Byte) (st : TransactionState) (s : State) :
    admAnswers (s.submit bytes st).history = admAnswers s.history := by
  obtain ⟨-, h⟩ | ⟨-, h⟩ := s.submit_cases bytes st <;> simp [h]

@[simp] theorem State.onAck_admAnswers (v : Ack) (s : State) :
    admAnswers (s.onAck v).history = admAnswers s.history := by
  obtain ⟨-, -, h⟩ | ⟨-, -, h⟩ | ⟨-, -, -, h⟩ | ⟨-, -, -, h⟩ | ⟨-, -, h⟩ := s.onAck_cases v <;> simp [h]

@[simp] theorem State.onTxFree_admAnswers (n : Word) (s : State) :
    admAnswers (s.onTxFree n).history = admAnswers s.history := by
  obtain h | ⟨-, ⟨-, h⟩ | ⟨-, h⟩ | ⟨-, h⟩⟩ := s.onTxFree_cases n <;> simp [h]

@[simp] theorem State.consumeTimer_admAnswers (s : State) :
    admAnswers s.consumeTimer.history = admAnswers s.history := by
  obtain ⟨-, h⟩ | ⟨-, -, -, h⟩ | ⟨-, -, h⟩ := s.consumeTimer_cases <;> simp [h]

@[simp] theorem State.consumeCancel_admAnswers (s : State) :
    admAnswers s.consumeCancel.history = admAnswers s.history := by
  obtain ⟨-, h⟩ | ⟨-, -, -, h⟩ | ⟨-, -, h⟩ := s.consumeCancel_cases <;> simp [h]

@[simp] theorem State.sendByte_admAnswers (s : State) : admAnswers s.sendByte.history = admAnswers s.history := by
  unfold State.sendByte
  split <;> rfl

@[simp] theorem State.doReset_admAnswers (s : State) : admAnswers s.doReset.history = admAnswers s.history := by
  simp [State.doReset, OutEvent.admRecord]

/-! ### The fetch puts no record on `ADM` -/

/-- A fetch that starts in `s` adds no answer on `ADM`, and the instruction it brings runs in the state of `s`. -/
def Fetched.Silent (s : State) : Fetched → Prop
  | .done t => admAnswers t.history = admAnswers s.history
  | .run _ t => admAnswers t.history = admAnswers s.history ∧ t.state = s.state
  | .reject _ => True

theorem State.readUnit_silent (e : Expect) (s : State) : (s.readUnit e).Silent s := by
  obtain h | ⟨-, i, -, h⟩ := s.readUnit_cases e <;> simp [h, Fetched.Silent]

theorem State.onRxAvailable_silent (n : Word) (s : State) : (s.onRxAvailable n).Silent s := by
  unfold State.onRxAvailable
  split
  · cases s.expects with
    | none => exact rfl
    | some e => exact s.readUnit_silent e
  · exact rfl

theorem State.onEvent_silent (e : Event) (s : State) : (s.onEvent e).Silent s := by
  cases e with
  | rxAvailable n => exact s.onRxAvailable_silent n
  | txFree n => exact s.onTxFree_admAnswers n

theorem State.consumeNotify_silent (s : State) : s.consumeNotify.Silent s := by
  unfold State.consumeNotify
  split
  · cases h : { s with ntfPend := false }.notifyEvent with
    | none => simp [h, Fetched.Silent]
    | some e => simpa [h] using { s with ntfPend := false }.onEvent_silent e
  · exact rfl

theorem State.sendUnit_silent (s : State) : s.sendUnit.Silent s := by
  unfold State.sendUnit
  split
  · exact rfl
  · split
    · exact ⟨rfl, rfl⟩
    · exact rfl

theorem State.takeRecord_silent (r : Record) (s : State) : (s.takeRecord r).Silent s := by
  unfold State.takeRecord
  split
  · exact ⟨rfl, rfl⟩
  · exact trivial

theorem State.takeTurn_silent (turn : Turn) (s : State) : (s.takeTurn turn).Silent s := by
  cases turn with
  | record r => exact s.takeRecord_silent r
  | takeNotify => exact s.consumeNotify_silent
  | takeTimer => exact s.consumeTimer_admAnswers
  | takeCancel => exact s.consumeCancel_admAnswers
  | arrive u => exact rfl
  | unitOut => exact s.sendUnit_silent
  | byteOut => exact s.sendByte_admAnswers
  | reset => exact s.doReset_admAnswers

theorem State.fetch_silent (s : State) : s.fetch.Silent s := by
  unfold State.fetch
  split
  case h_1 => exact rfl
  case h_2 turn rest _ => exact { s with turns := rest }.takeTurn_silent turn

/-! ### Only admission puts a record on `ADM` -/

/-- An instruction adds no answer on `ADM`, or it is a command that is put to admission. -/
theorem exec_silent_or_admission {i : Instr} {s t : State} (h : exec i s = .next t) :
    admAnswers t.history = admAnswers s.history ∨ ∃ e, t = s.admission e := by
  cases i with
  | cmdWriteObject => cases h; exact .inr ⟨_, rfl⟩
  | cmdReadObject =>
    simp only [exec, execCmdReadObject] at h
    split at h
    · cases h
    · cases h; exact .inr ⟨_, rfl⟩
  | reservedKind => cases h
  | rspHeader =>
    cases h
    left
    split
    · split <;> simp
    · rfl
  | rspData =>
    cases h
    left
    split
    · split
      · simp
      · split <;> simp [State.loadResponse]
    · rfl
  | ackAccept => cases h; exact .inl (s.onAck_admAnswers _)
  | ackReject => cases h; exact .inl (s.onAck_admAnswers _)
  | writeObject | readObject | writeBody | readBody | responseAck | cancel | notify | timerFired => cases h; exact .inl rfl

/-- A step adds no answer on `ADM`, or it is the admission of a command in the state of `s`. -/
theorem step_silent_or_admission {s t : State} (h : step s = .next t) :
    admAnswers t.history = admAnswers s.history ∨
      ∃ (u : State) (e : Option Request), admAnswers u.history = admAnswers s.history ∧ u.state = s.state ∧ t = u.admission e := by
  have hf := s.fetch_silent
  unfold step at h
  split at h
  case h_1 heq => cases h; rw [heq] at hf; exact .inl hf
  case h_2 i u heq =>
    rw [heq] at hf
    obtain ⟨hu, hst⟩ := hf
    obtain ht | ⟨e, ht⟩ := exec_silent_or_admission h
    · exact .inl (ht.trans hu)
    · exact .inr ⟨u, e, hu, hst, ht⟩
  case h_3 => cases h

/-- The tag and the next state that R84 and R170 give an answer on `ADM` in a step from `s` to `t`. -/
def AnswerFits (s t : State) (res : AdmResult) (tag : Byte) : Prop :=
  (res = .admitted → t.state = .sendingOpcode ∧ tag = t.tag) ∧ (res ≠ .admitted → tag = 0 ∧ t.state = s.state)

/-- Admission adds exactly one answer on `ADM`. -/
theorem State.admission_answer (e : Option Request) (s : State) :
    ∃ res tag, admAnswers (s.admission e).history = admAnswers s.history ++ [.admission res tag] ∧
      AnswerFits s (s.admission e) res tag := by
  obtain ⟨-, h⟩ | ⟨-, -, h⟩ | ⟨q, -, -, -, res, hres, h⟩ | ⟨q, -, -, -, h⟩ := s.admission_cases e
  · exact ⟨.driverBusy, 0, by simp [h, OutEvent.admRecord], by simp [h, AnswerFits]⟩
  · exact ⟨.unexpectedError, 0, by simp [h, OutEvent.admRecord], by simp [h, AnswerFits]⟩
  · exact ⟨res, 0, by simp [h, OutEvent.admRecord], by obtain rfl | rfl := hres <;> simp [h, AnswerFits]⟩
  · exact ⟨.admitted, (s.uartWrite [q.opcode]).2.nextTag, by simp [h, OutEvent.admRecord], by simp [h, AnswerFits, State.enter_busy]⟩

/-- Settles O24: an answer a step adds is the one answer of the admission it runs, and its code is that of its result. -/
theorem admissionRecords : Obligations.AdmissionRecords := by
  intro s t out res tag hstep hout hmem
  rw [← admission_mem_admAnswers] at hmem
  obtain ht | ⟨u, e, hu, hst, rfl⟩ := step_silent_or_admission hstep
  · rw [hout, admAnswers_append, List.append_right_eq_self] at ht
    simp [ht] at hmem
  · obtain ⟨res', tag', hadd, hadmitted, hother⟩ := u.admission_answer e
    rw [hout, hu, admAnswers_append, List.append_cancel_left_eq] at hadd
    obtain ⟨rfl, rfl⟩ : res = res' ∧ tag = tag' := by simpa [hadd] using hmem
    refine ⟨res.code, rfl, fun h => ⟨by rw [h]; rfl, hadmitted h⟩, fun h => hst ▸ hother h, ?_, ?_, ?_⟩ <;>
      · rintro rfl; rfl

end Sys2Proof.Machine
end

section
/-! Proofs about the checksum (40_codec.md R100 to R102): the register update is linear over exclusive or and loses nothing,
so the table form computes it and a checksum changes with any one byte. -/

namespace Sys2Proof.Machine

/-! ### The register update is linear -/

/-- With no bit going out at the feedback end, the update is the shift alone. -/
theorem crcBit_lsbFirst_of_low_clear {c : Half} (h : c.getLsbD 0 = false) : crcBit .lsbFirst c = c >>> 1 :=
  if_neg (by rw [h]; decide)

theorem crcBit_msbFirst_of_high_clear {c : Half} (h : c.getLsbD 15 = false) : crcBit .msbFirst c = c <<< 1 :=
  if_neg (by rw [h]; decide)

/-- The feedback polynomial enters for each operand whose outgoing bit is set, and twice is not at all. -/
theorem crcBit_xor (o : CrcOrder) (a b : Half) : crcBit o (a ^^^ b) = crcBit o a ^^^ crcBit o b := by
  have cancel (x y m : Half) : (x ^^^ m) ^^^ (y ^^^ m) = x ^^^ y := by
    rw [BitVec.xor_comm y, BitVec.xor_assoc, ← BitVec.xor_assoc m, BitVec.xor_self, BitVec.zero_xor]
  cases o with
  | lsbFirst =>
    simp only [crcBit, BitVec.getLsbD_xor, BitVec.ushiftRight_xor_distrib]
    cases a.getLsbD 0 <;> cases b.getLsbD 0 <;> simp [cancel] <;> ac_rfl
  | msbFirst =>
    simp only [crcBit, BitVec.getLsbD_xor, BitVec.shiftLeft_xor_distrib]
    cases a.getLsbD 15 <;> cases b.getLsbD 15 <;> simp [cancel] <;> ac_rfl

theorem crcBits_xor (o : CrcOrder) (n : Nat) (a b : Half) : crcBits o n (a ^^^ b) = crcBits o n a ^^^ crcBits o n b := by
  induction n generalizing a b with
  | zero => rfl
  | succ n ih => simp only [crcBits, crcBit_xor, ih]

/-- A register and a byte that together leave `r` beside a byte `i` step as `r` alone and `i` from a zero register. -/
theorem crcStep_of_xor_eq {o : CrcOrder} {c r : Half} {b i : Byte} (h : c ^^^ crcLoad o b = r ^^^ crcLoad o i) :
    crcStep o c b = crcBits o 8 r ^^^ crcStep o 0 i := by
  rw [crcStep, crcStep, h, crcBits_xor, show (0 : Half) ^^^ crcLoad o i = crcLoad o i from BitVec.zero_xor]

/-! ### The table form -/

/-- Bits that reach the feedback end as zeros leave no trace: `LSB_FIRST` only shifts. -/
theorem crcBits_lsbFirst_of_low_zero {n : Nat} {c : Half} (h : ∀ i < n, c.getLsbD i = false) :
    crcBits .lsbFirst n c = c >>> n := by
  induction n generalizing c with
  | zero => simp [crcBits]
  | succ n ih =>
    have hnext (i : Nat) (hi : i < n) : (c >>> 1).getLsbD i = false := by
      rw [BitVec.getLsbD_ushiftRight, h (1 + i) (by omega)]
    rw [crcBits, crcBit_lsbFirst_of_low_clear (h 0 n.succ_pos), ih hnext, ← BitVec.shiftRight_add, Nat.add_comm]

/-- The same for `MSB_FIRST`, whose feedback end is bit 15. -/
theorem crcBits_msbFirst_of_high_zero {n : Nat} {c : Half} (h : ∀ i < n, c.getLsbD (15 - i) = false) :
    crcBits .msbFirst n c = c <<< n := by
  induction n generalizing c with
  | zero => simp [crcBits]
  | succ n ih =>
    have hnext (i : Nat) (hi : i < n) : (c <<< 1).getLsbD (15 - i) = false := by
      rw [BitVec.getLsbD_shiftLeft, show 15 - i - 1 = 15 - (i + 1) by omega, h (i + 1) (by omega), Bool.and_false]
    rw [crcBits, crcBit_msbFirst_of_high_clear (h 0 n.succ_pos), ih hnext, ← BitVec.shiftLeft_add, Nat.add_comm]

theorem crcStep_lsbFirst_table (c : Half) (b : Byte) :
    crcStep .lsbFirst c b = (c >>> 8) ^^^ crcStep .lsbFirst 0 ((c ^^^ b.setWidth 16).setWidth 8) := by
  have hsplit : c ^^^ crcLoad .lsbFirst b =
      (c >>> 8) <<< 8 ^^^ crcLoad .lsbFirst ((c ^^^ b.setWidth 16).setWidth 8) := by
    apply BitVec.eq_of_getLsbD_eq
    intro i hi
    by_cases h : i < 8
    · simp [crcLoad, hi, h]
    · simp [crcLoad, hi, h, show 8 + (i - 8) = i by omega]
  have hshift : (c >>> 8) <<< 8 >>> 8 = c >>> 8 := by bv_omega
  rw [crcStep_of_xor_eq hsplit, crcBits_lsbFirst_of_low_zero (by simp +contextual), hshift]

theorem crcStep_msbFirst_table (c : Half) (b : Byte) :
    crcStep .msbFirst c b = (c <<< 8) ^^^ crcStep .msbFirst 0 ((c >>> 8 ^^^ b.setWidth 16).setWidth 8) := by
  have hsplit : c ^^^ crcLoad .msbFirst b =
      (c <<< 8) >>> 8 ^^^ crcLoad .msbFirst ((c >>> 8 ^^^ b.setWidth 16).setWidth 8) := by
    apply BitVec.eq_of_getLsbD_eq
    intro i hi
    by_cases h : i < 8
    · simp [crcLoad, hi, h, show 8 + i < 16 by omega]
    · simp [crcLoad, hi, h, show ¬8 + i < 16 by omega, show i - 8 < 8 by omega, show i - 8 < 16 by omega,
        show 8 + (i - 8) = i by omega]
  have hshift : (c <<< 8) >>> 8 <<< 8 = c <<< 8 := by bv_omega
  have hhigh (i : Nat) (hi : i < 8) : ((c <<< 8) >>> 8).getLsbD (15 - i) = false := by
    simp; omega
  rw [crcStep_of_xor_eq hsplit, crcBits_msbFirst_of_high_zero hhigh, hshift]

/-- Settles O7: the table form, by linearity; the four table values are computed. -/
theorem checksumTableForm : Obligations.ChecksumTableForm :=
  ⟨crcStep_lsbFirst_table, crcStep_msbFirst_table, by decide, by decide, by decide, by decide⟩

/-! ### The checksum as a fold -/

theorem crc16_append (o : CrcOrder) (s t : List Byte) : crc16 o (s ++ t) = t.foldl (crcStep o) (crc16 o s) :=
  List.foldl_append

set_option maxRecDepth 20000 in
/-- Settles O6: a fold over an appended list is the fold from the first part's result; the fixed values are computed. -/
theorem checksumIsIncremental : Obligations.ChecksumIsIncremental :=
  ⟨fun o => ⟨rfl, by cases o <;> decide⟩, fun o s b => crc16_append o s [b], crc16_append,
    by decide, by decide, by decide, by decide⟩

/-! ### A checksum changes with any one byte -/

/-- The bit that is shifted out comes back at the other end, where nothing else does. -/
theorem getLsbD_crcBit_lsbFirst (c : Half) : (crcBit .lsbFirst c).getLsbD 15 = c.getLsbD 0 := by
  cases h : c.getLsbD 0 <;> simp only [crcBit, h] <;> simp

theorem getLsbD_crcBit_msbFirst (c : Half) : (crcBit .msbFirst c).getLsbD 0 = c.getLsbD 15 := by
  cases h : c.getLsbD 15 <;> simp only [crcBit, h] <;> simp

/-- A register whose update is zero sent no bit out, and the bits it kept are zero. -/
theorem eq_zero_of_crcBit_eq_zero {o : CrcOrder} {c : Half} (h : crcBit o c = 0) : c = 0 := by
  cases o with
  | lsbFirst =>
    have hlow : c.getLsbD 0 = false := by rw [← getLsbD_crcBit_lsbFirst, h]; rfl
    have hshift : c >>> 1 = 0 := (crcBit_lsbFirst_of_low_clear hlow).symm.trans h
    simp only [BitVec.getLsbD, Nat.testBit_eq_decide_div_mod_eq, decide_eq_false_iff_not] at hlow
    bv_omega
  | msbFirst =>
    have hhigh : c.getLsbD 15 = false := by rw [← getLsbD_crcBit_msbFirst, h]; rfl
    have hshift : c <<< 1 = 0 := (crcBit_msbFirst_of_high_clear hhigh).symm.trans h
    simp only [BitVec.getLsbD, Nat.testBit_eq_decide_div_mod_eq, decide_eq_false_iff_not] at hhigh
    bv_omega

theorem crcBit_injective (o : CrcOrder) : Function.Injective (crcBit o) := by
  intro a b h
  have hzero : crcBit o (a ^^^ b) = 0 := by rw [crcBit_xor, h]; exact BitVec.xor_self
  exact BitVec.xor_eq_zero_iff.1 (eq_zero_of_crcBit_eq_zero hzero)

theorem crcBits_injective (o : CrcOrder) (n : Nat) : Function.Injective (crcBits o n) := by
  induction n with
  | zero => exact fun _ _ h => h
  | succ n ih => exact ih.comp (crcBit_injective o)

theorem crcLoad_injective (o : CrcOrder) : Function.Injective (crcLoad o) := by
  intro a b h
  cases o with
  | lsbFirst => simpa [crcLoad] using congrArg (BitVec.setWidth 8) h
  | msbFirst =>
    simp only [crcLoad] at h
    bv_omega

theorem crcStep_injective_register (o : CrcOrder) (b : Byte) : Function.Injective fun c => crcStep o c b :=
  fun _ _ h => (BitVec.xor_left_inj _).1 (crcBits_injective o 8 h)

theorem crcStep_injective_byte (o : CrcOrder) (c : Half) : Function.Injective (crcStep o c) :=
  fun _ _ h => crcLoad_injective o ((BitVec.xor_right_inj _).1 (crcBits_injective o 8 h))

/-- Bytes fed after a difference in the register do not remove it. -/
theorem foldl_crcStep_injective (o : CrcOrder) (s : List Byte) : Function.Injective fun c => s.foldl (crcStep o) c := by
  induction s with
  | nil => exact fun _ _ h => h
  | cons x s ih => exact ih.comp (crcStep_injective_register o x)

/-- A byte put in the place of another leaves the checksum only if it is the same byte. -/
theorem eq_of_foldl_crcStep_set {o : CrcOrder} {s : List Byte} {k : Nat} {b : Byte} {c : Half} (hk : k < s.length)
    (h : (s.set k b).foldl (crcStep o) c = s.foldl (crcStep o) c) : b = s[k] := by
  induction s generalizing k c with
  | nil => simp at hk
  | cons x s ih =>
    cases k with
    | zero => exact crcStep_injective_byte o c (foldl_crcStep_injective o s h)
    | succ k => exact ih (by simpa using hk) h

end Sys2Proof.Machine
end

section
/-! Proofs about the codec (40_codec.md R103 to R109): the request encoders and the request decoder, and the decoders of
the device's replies. -/

namespace Sys2Proof.Machine

/-! ### Joining bytes, the other way round (20_memory.md R50, R52) -/

@[simp] theorem lo8_join16 (b0 b1 : Byte) : lo8 (join16 b0 b1) = b0 := BitVec.extractLsb'_append_eq_right

@[simp] theorem hi8_join16 (b0 b1 : Byte) : hi8 (join16 b0 b1) = b1 := BitVec.extractLsb'_append_eq_left

theorem join16_eq_iff {b0 b1 : Byte} {v : Half} : join16 b0 b1 = v ↔ b0 = lo8 v ∧ b1 = hi8 v := by
  constructor
  · rintro rfl
    simp
  · rintro ⟨rfl, rfl⟩
    simp

theorem join16_toNat (b0 b1 : Byte) : (join16 b0 b1).toNat = b0.toNat + 256 * b1.toNat := by
  rw [join16, BitVec.toNat_append, ← Nat.shiftLeft_add_eq_or_of_lt b0.isLt, Nat.shiftLeft_eq]
  omega

theorem byte32_join32 (b0 b1 b2 b3 : Byte) :
    let d := join32 b0 b1 b2 b3
    byte32 d 0 = b0 ∧ byte32 d 1 = b1 ∧ byte32 d 2 = b2 ∧ byte32 d 3 = b3 := by
  refine ⟨BitVec.extractLsb'_append_eq_right, ?_, ?_, ?_⟩ <;> unfold byte32 join32
  · rw [BitVec.extractLsb'_append_eq_of_le (by omega)]
    exact BitVec.extractLsb'_append_eq_right
  · iterate 2 rw [BitVec.extractLsb'_append_eq_of_le (by omega)]
    exact BitVec.extractLsb'_append_eq_right
  · iterate 2 rw [BitVec.extractLsb'_append_eq_of_le (by omega)]
    exact BitVec.extractLsb'_append_eq_left

/-! ### The encoders -/

theorem frame_eq (cfg : Config) (op : Byte) (p : List Byte) :
    frame cfg op p =
      if p.length ≤ cfg.maxPayload then some ⟨op, p ++ bytes16 (crc16 cfg.crcOrder (op :: p))⟩ else none := by
  rw [frame, ← ite_not]
  simp only [Nat.not_lt]

set_option maxRecDepth 20000 in
/-- Settles O8: both encoders are `frame` of their payload, whose length is 9 or 5; the examples are computed. -/
theorem requestEncoders : Obligations.RequestEncoders :=
  ⟨fun _ _ _ _ _ => frame_eq .., fun _ _ _ _ => frame_eq .., by decide, by decide, by decide, by decide⟩

/-! ### The request decoder -/

/-- A body of a request: a payload and the checksum over the opcode and that payload (R77). -/
def framed (o : CrcOrder) (op : Byte) (p : List Byte) : List Byte := p ++ bytes16 (crc16 o (op :: p))

theorem decReq_eq_write_iff {cfg : Config} {op : Byte} {body : List Byte} {index : Half} {sub node : Byte} {data : Word} :
    decReq cfg op body = .write index sub node data ↔
      op = cfg.opWrite ∧ body = framed cfg.crcOrder cfg.opWrite (writePayload index sub node data) := by
  constructor
  · intro h
    unfold decReq at h
    split at h
    case h_1 l i0 i1 sub' node' d0 d1 d2 d3 c0 c1 =>
      split_ifs at h with hop hcrc
      obtain ⟨rfl, rfl⟩ := hop
      obtain ⟨rfl, rfl⟩ := join16_eq_iff.1 hcrc
      obtain ⟨rfl, rfl, rfl, rfl⟩ := ReqResult.write.inj h
      simp [framed, writePayload, bytes16, byte32_join32]
    case h_2 => split_ifs at h
    case h_3 => cases h
  · rintro ⟨rfl, rfl⟩
    simp [decReq, framed, writePayload, bytes16]

theorem decReq_eq_read_iff {cfg : Config} {op : Byte} {body : List Byte} {index : Half} {sub node : Byte} :
    decReq cfg op body = .read index sub node ↔
      op = cfg.opRead ∧ body = framed cfg.crcOrder cfg.opRead (readPayload index sub node) := by
  constructor
  · intro h
    unfold decReq at h
    split at h
    case h_1 => split_ifs at h
    case h_2 l i0 i1 sub' node' c0 c1 =>
      split_ifs at h with hop hcrc
      obtain ⟨rfl, rfl⟩ := hop
      obtain ⟨rfl, rfl⟩ := join16_eq_iff.1 hcrc
      obtain ⟨rfl, rfl, rfl⟩ := ReqResult.read.inj h
      simp [framed, readPayload, bytes16]
    case h_3 => cases h
  · rintro ⟨rfl, rfl⟩
    simp [decReq, framed, readPayload, bytes16]

theorem decReq_eq_malformed_iff {cfg : Config} {op : Byte} {body : List Byte} :
    decReq cfg op body = .malformed ↔
      ¬((op = cfg.opWrite ∧ body.length = 11 ∧ body.head? = some 3) ∨
        (op = cfg.opRead ∧ body.length = 7 ∧ body.head? = some 1)) := by
  unfold decReq
  split
  case h_1 => split_ifs with hop <;> simpa using hop
  case h_2 => split_ifs with hop <;> simpa using hop
  case h_3 h11 h7 =>
    simp only [true_iff]
    rintro (⟨-, hlen, -⟩ | ⟨-, hlen, -⟩)
    · match body, hlen with
      | [_, _, _, _, _, _, _, _, _, _, _], _ => exact h11 _ _ _ _ _ _ _ _ _ _ _ rfl
    · match body, hlen with
      | [_, _, _, _, _, _, _], _ => exact h7 _ _ _ _ _ _ _ rfl

/-- A body that decodes is a payload with its checksum. -/
theorem exists_framed_of_decReq {cfg : Config} {op : Byte} {body : List Byte} (hm : decReq cfg op body ≠ .malformed)
    (hc : decReq cfg op body ≠ .checksumError) : ∃ p, body = framed cfg.crcOrder op p := by
  cases h : decReq cfg op body with
  | write index sub node data =>
    obtain ⟨rfl, hbody⟩ := decReq_eq_write_iff.1 h
    exact ⟨_, hbody⟩
  | read index sub node =>
    obtain ⟨rfl, hbody⟩ := decReq_eq_read_iff.1 h
    exact ⟨_, hbody⟩
  | checksumError => exact absurd h hc
  | malformed => exact absurd h hm

theorem bytes16_injective : Function.Injective bytes16 := by
  intro v w h
  obtain ⟨hlo, hhi⟩ : lo8 v = lo8 w ∧ hi8 v = hi8 w := by simpa [bytes16] using h
  rw [← join16_lo8_hi8 v, hlo, hhi, join16_lo8_hi8]

/-- One byte of a payload with its checksum is the only one that fits the others: in the payload, because the checksum
tells two payloads apart that differ in one byte; in the checksum, because the payload fixes it. -/
theorem eq_of_framed_set {o : CrcOrder} {op b : Byte} {p q : List Byte} {k : Nat} (hk : k < (framed o op p).length)
    (h : (framed o op p).set k b = framed o op q) : b = (framed o op p)[k] := by
  have hlen : p.length = q.length := by simpa [framed, bytes16] using congrArg List.length h
  by_cases hkp : k < p.length
  · simp only [framed, List.set_append_left _ _ hkp] at h
    obtain ⟨rfl, hcrc⟩ := List.append_inj h (by simpa using hlen)
    have hb := eq_of_foldl_crcStep_set hkp (bytes16_injective hcrc).symm
    simpa [framed, List.getElem_append_left hkp] using hb
  · have hq := h
    simp only [framed, List.set_append_right _ _ (Nat.not_lt.1 hkp)] at hq
    obtain ⟨rfl, -⟩ := List.append_inj hq hlen
    have hget := congrArg (·[k]?) h
    simpa [hk] using hget

/-- Settles O10: the two iff's of a request, the shapes of a body, and that a changed byte no longer fits the others. -/
theorem requestDecoder : Obligations.RequestDecoder := by
  refine ⟨fun _ _ _ _ _ _ _ => decReq_eq_write_iff, fun _ _ _ _ _ _ => decReq_eq_read_iff,
    fun _ _ _ => decReq_eq_malformed_iff, fun cfg op body k b hk hm hc hb => ?_⟩
  by_contra! hset
  obtain ⟨hm', hc'⟩ := hset
  obtain ⟨p, rfl⟩ := exists_framed_of_decReq hm hc
  obtain ⟨q, hq⟩ := exists_framed_of_decReq hm' hc'
  exact hb (eq_of_framed_set hk hq)

/-! ### The decoders of the replies -/

theorem decAck_eq_accepted_iff {cfg : Config} {b : Byte} : decAck cfg b = .accepted ↔ b = cfg.ack := by
  simp [decAck]

theorem decAck_eq_rejected_iff {cfg : Config} {b : Byte} : decAck cfg b = .rejected ↔ b ≠ cfg.ack := by
  simp [decAck]

theorem decodeReply_data (cfg : Config) (data : List Byte) (c0 c1 : Byte) :
    decodeReply cfg (.data data.length) (data ++ [c0, c1]) = .ok (.rspData data (join16 c0 c1)) := by
  simp [decodeReply]

theorem decRspHdr_eq_some_iff {cfg : Config} {h0 : Byte} {crc : Half} {d : Nat} :
    decRspHdr cfg h0 crc = some d ↔
      crc = crc16 cfg.crcOrder [h0] ∧ d = declared cfg h0 ∧ 1 + d ≤ cfg.maxPayload := by
  unfold decRspHdr
  split_ifs with hcrc hmax
  · simp [hcrc]
  · constructor
    · rintro ⟨⟩
    · rintro ⟨-, rfl, h⟩
      omega
  · constructor
    · rintro ⟨⟩
      exact ⟨not_not.1 hcrc, rfl, Nat.not_lt.1 hmax⟩
    · rintro ⟨-, rfl, -⟩
      rfl

theorem decRspPayload_eq_some_iff {cfg : Config} {h0 : Byte} {data p : List Byte} {crc : Half} :
    decRspPayload cfg h0 data crc = some p ↔ crc = crc16 cfg.crcOrder (dataCovered cfg h0 data) ∧ p = data := by
  rw [decRspPayload, ite_not]
  split_ifs with hcrc
  · simp [hcrc, eq_comm]
  · simp [hcrc]

theorem declared_of_specFormat {cfg : Config} (h : SpecFormat cfg) (h0 : Byte) : declared cfg h0 = 2 * (h0.toNat + 1) := by
  rw [declared, h.1]
  rfl

theorem dataCovered_of_specFormat {cfg : Config} (h : SpecFormat cfg) (h0 : Byte) (data : List Byte) :
    dataCovered cfg h0 data = h0 :: data := by
  rw [dataCovered, h.1]

set_option maxRecDepth 20000 in
/-- Settles O11: each decoder's iff, in the format of R74 and R75; the fixed values are computed. -/
theorem replyDecoders : Obligations.ReplyDecoders := by
  refine ⟨fun _ _ => ⟨decAck_eq_accepted_iff, decAck_eq_rejected_iff⟩, fun _ _ c0 c1 => ⟨_, join16_toNat c0 c1, rfl⟩,
    fun cfg data c0 c1 => ⟨_, join16_toNat c0 c1, decodeReply_data cfg data c0 c1⟩, fun cfg h0 crc d hspec => ?_,
    fun cfg h0 data p crc hspec => ?_, fun _ => rfl, by decide⟩
  · rw [decRspHdr_eq_some_iff, declared_of_specFormat hspec]
  · rw [decRspPayload_eq_some_iff, dataCovered_of_specFormat hspec]

end Sys2Proof.Machine
end

section
/-! Facts that the transition rules (41_state_machine.md R135 to R143) share: the threshold test, the event a notification
makes, the step on each latch, and what a step that reads a unit from the transport ends in. -/

namespace Sys2Proof.Machine

/-! ### The threshold test (43_event_bridge.md R192) -/

theorem meets_eq_true_iff {n : Word} {thr : Half} :
    meets n thr = true ↔ thr ≠ 0 ∧ (thr.toNat : Int) ≤ n.toInt := by
  have hpos : 0 < thr.toNat ↔ thr ≠ 0 := by rw [Nat.pos_iff_ne_zero, ne_eq, ne_eq, ← BitVec.toNat_inj]; rfl
  simp [meets, hpos]

theorem meets_eq_false_iff {n : Word} {thr : Half} :
    meets n thr = false ↔ thr = 0 ∨ n.toInt < (thr.toNat : Int) := by
  rw [← Bool.not_eq_true, meets_eq_true_iff, not_and_or, not_not, not_le]

theorem meets_zero (n : Word) : meets n 0 = false := meets_eq_false_iff.2 (.inl rfl)

/-! ### The event a notification makes (R192) -/

theorem State.notifyEvent_eq_rxAvailable {s : State} (h : meets s.ntfRx s.rxThr = true) :
    s.notifyEvent = some (.rxAvailable s.ntfRx) := by
  simp [State.notifyEvent, h]

theorem State.notifyEvent_eq_txFree {s : State} (hrx : meets s.ntfRx s.rxThr = false)
    (htx : meets s.ntfTx s.txThr = true) : s.notifyEvent = some (.txFree s.ntfTx) := by
  simp [State.notifyEvent, hrx, htx]

theorem State.notifyEvent_eq_none {s : State} (hrx : meets s.ntfRx s.rxThr = false)
    (htx : meets s.ntfTx s.txThr = false) : s.notifyEvent = none := by
  simp [State.notifyEvent, hrx, htx]

/-- An event below its threshold is a no-op (R142). -/
theorem State.onRxAvailable_unmet {n : Word} {s : State} (h : meets n s.rxThr = false) : s.onRxAvailable n = .done s := by
  simp [State.onRxAvailable, h]

theorem State.onTxFree_unmet {n : Word} {s : State} (h : meets n s.txThr = false) : s.onTxFree n = s := by
  simp [State.onTxFree, h]

/-! ### The step on each latch (R192 to R194) -/

theorem step_of_fetch_done {s t : State} (h : s.fetch = .done t) : step s = .next t := by
  simp [step, h]

theorem step_of_fetch_run {s t : State} {i : Instr} (h : s.fetch = .run i t) : step s = exec i t := by
  simp [step, h]

theorem State.fetch_takeNotify_event {s : State} {rest : List Turn} {e : Event} (hs : s.turns = .takeNotify :: rest)
    (hp : s.ntfPend = true) (he : s.notifyEvent = some e) :
    s.fetch = { s with turns := rest, ntfPend := false }.onEvent e := by
  have he' : { s with turns := rest, ntfPend := false }.notifyEvent = some e := he
  simp [State.fetch, hs, State.takeTurn, State.consumeNotify, hp, he']

theorem State.fetch_takeNotify_no_event {s : State} {rest : List Turn} (hs : s.turns = .takeNotify :: rest)
    (hp : s.ntfPend = true) (he : s.notifyEvent = none) :
    s.fetch = .done { s with turns := rest, ntfPend := false } := by
  have he' : { s with turns := rest, ntfPend := false }.notifyEvent = none := he
  simp [State.fetch, hs, State.takeTurn, State.consumeNotify, hp, he']

theorem step_takeTimer {s : State} {rest : List Turn} (hs : s.turns = .takeTimer :: rest) :
    step s = .next { s with turns := rest }.consumeTimer := by
  simp [step, State.fetch, hs, State.takeTurn]

theorem step_takeCancel {s : State} {rest : List Turn} (hs : s.turns = .takeCancel :: rest) :
    step s = .next { s with turns := rest }.consumeCancel := by
  simp [step, State.fetch, hs, State.takeTurn]

/-! ### The procedures on an armed timer (R132 to R134) -/

theorem State.enter_armed {st : TransactionState} {s : State} (h : s.tmrArmed = true) (hst : st ≠ .ready) :
    s.enter st = moved st (s.thr st).1 (s.thr st).2 s := by
  simp [State.enter_busy hst, moved, State.disarmOut, h]

theorem State.finish_armed {s : State} (h : s.tmrArmed = true) (o : TermOutcome) (p : List Byte) :
    s.finish o p = ended o p s := by
  simp [State.finish_eq, ended, State.disarmOut, h, cleared]

theorem State.abort_armed {s : State} (h : s.tmrArmed = true) (c : FailCode) : s.abort c = ended c.outcome [] s := by
  rw [State.abort_eq, State.finish_armed h]

/-- In flight the timer is armed (R39). -/
theorem State.Inv.armed {s : State} (h : s.Inv) (hs : s.state ≠ .ready) : s.tmrArmed = true := (h.2.1 hs).1

/-- The threshold registers are those of the state (R131). -/
theorem State.Inv.thresholdsSet {s : State} (h : s.Inv) : (s.rxThr, s.txThr) = s.thr s.state := by
  obtain ⟨-, -, -, -, -, -, -, -, h, -⟩ := h
  exact h

/-! ### What a transport call leaves of the registers (R190) -/

/-- The registers a transition rule reads after a call of the transport are in `t` as they were in `s`. -/
structure SameRegisters (s t : State) : Prop where
  cfg : t.cfg = s.cfg
  state : t.state = s.state
  opcode : t.opcode = s.opcode
  outbuf : t.outbuf = s.outbuf
  outlen : t.outlen = s.outlen
  inbuf : t.inbuf = s.inbuf
  rspLenM1 : t.rspLenM1 = s.rspLenM1
  declLen : t.declLen = s.declLen
  tmrArmed : t.tmrArmed = s.tmrArmed

theorem State.uartRead_sameRegisters {s t : State} {n : Nat} {cr : Word} {r : List Byte}
    (h : s.uartRead n = (cr, r, t)) : SameRegisters s t := by
  obtain ⟨_, _, _, _, _, _, _, hf⟩ := s.uartRead_frame n
  rw [show t = _ by simpa only [h] using hf]
  exact ⟨rfl, rfl, rfl, rfl, rfl, rfl, rfl, rfl, rfl⟩

/-- The same for the read of a step that has cleared the latch it consumed. -/
theorem State.uartRead_sameRegisters_of_notify {s t : State} {rest : List Turn} {n : Nat} {cr : Word} {r : List Byte}
    (h : { s with turns := rest, ntfPend := false }.uartRead n = (cr, r, t)) : SameRegisters s t :=
  have hk := State.uartRead_sameRegisters h
  ⟨hk.cfg, hk.state, hk.opcode, hk.outbuf, hk.outlen, hk.inbuf, hk.rspLenM1, hk.declLen, hk.tmrArmed⟩

theorem State.uartWrite_sameRegisters {s t : State} {bytes : List Byte} {nw : Word}
    (h : s.uartWrite bytes = (nw, t)) : SameRegisters s t := by
  obtain ⟨_, _, _, _, _, _, _, hf⟩ := s.uartWrite_frame bytes
  rw [show t = _ by simpa only [h] using hf]
  exact ⟨rfl, rfl, rfl, rfl, rfl, rfl, rfl, rfl, rfl⟩

/-- A read answered with the count asked returns as many bytes (R12). -/
theorem State.uartRead_length {s t : State} {n : Nat} {cr : Word} {r : List Byte} (h : s.uartRead n = (cr, r, t))
    (hn : cr.toInt = (n : Int)) : r.length = n := by
  cases h
  rw [State.readBytes_length, hn, min_self, Int.toNat_natCast]

theorem toInt_eq_natCast_iff {cr : Word} {n : Nat} (hn : n < 2 ^ 31) :
    cr.toInt = (n : Int) ↔ cr = BitVec.ofNat 32 n := by
  rw [← BitVec.toInt_inj, BitVec.toInt_ofNat', Int.bmod_eq_of_le (by omega) (by omega)]

/-- A write inside a transaction, on an armed timer: taken whole it moves on, else it ends with `UnexpectedError`. -/
theorem State.submit_armed {s t : State} {bytes : List Byte} {nw : Word} {st : TransactionState}
    (h : s.uartWrite bytes = (nw, t)) (ha : s.tmrArmed = true) (hst : st ≠ .ready) :
    (nw ≠ 0 → s.submit bytes st = ended .unexpectedError [] t) ∧
      (nw = 0 → s.submit bytes st = moved st (t.thr st).1 (t.thr st).2 t) := by
  have ha' : t.tmrArmed = true := (State.uartWrite_sameRegisters h).tmrArmed.trans ha
  obtain ⟨hc, hsub⟩ | ⟨hc, hsub⟩ := s.submit_cases bytes st <;> rw [h] at hc hsub
  · exact ⟨fun _ => hsub.trans (State.abort_armed ha' _), fun h0 => absurd h0 hc⟩
  · exact ⟨fun h0 => absurd hc h0, fun _ => hsub.trans (State.enter_armed ha' hst)⟩

/-! ### The step that reads a unit (R136, R138 to R140) -/

theorem State.expects_busy {s : State} {e : Expect} (he : s.expects = some e) : s.state ≠ .ready := by
  intro hs
  simp [State.expects, hs] at he

/-- A receive state's threshold is the length of the unit it reads (R131). -/
theorem State.Inv.rxThr_eq_of_expects {s : State} {e : Expect} (hi : s.Inv) (he : s.expects = some e) :
    s.rxThr = BitVec.ofNat 16 e.length := by
  have hthr : s.rxThr = (s.thr s.state).1 := congrArg Prod.fst hi.thresholdsSet
  rw [hthr]
  cases hs : s.state <;> simp only [State.expects, hs, Option.some.injEq, reduceCtorEq] at he <;> subst he <;>
    simp [State.thr, Expect.length]

theorem State.Inv.meets_rxThr {s : State} {e : Expect} (hi : s.Inv) (he : s.expects = some e) (hpos : 0 < e.length)
    (hlt : e.length < 2 ^ 16) (hn : (e.length : Int) ≤ s.ntfRx.toInt) : meets s.ntfRx s.rxThr = true := by
  have hlen : s.rxThr.toNat = e.length := by
    rw [hi.rxThr_eq_of_expects he, BitVec.toNat_ofNat, Nat.mod_eq_of_lt hlt]
  refine meets_eq_true_iff.2 ⟨fun h0 => ?_, hlen ▸ hn⟩
  rw [h0] at hlen
  exact hpos.ne hlen

/-- A notification that meets the receive threshold has the step read the expected unit (R192). -/
theorem State.fetch_takeNotify_readUnit {s : State} {rest : List Turn} {e : Expect} (hs : s.turns = .takeNotify :: rest)
    (hp : s.ntfPend = true) (hm : meets s.ntfRx s.rxThr = true) (he : s.expects = some e) :
    s.fetch = { s with turns := rest, ntfPend := false }.readUnit e := by
  have he' : { s with turns := rest, ntfPend := false }.expects = some e := he
  rw [State.fetch_takeNotify_event hs hp (State.notifyEvent_eq_rxAvailable hm)]
  simp [State.onEvent, State.onRxAvailable, hm, he']

/-- What the step that reads a unit of length `e.length` ends in: another count is `UnexpectedError`, and with that count
the bytes read spell the instruction that runs. -/
theorem step_reads_unit {s s₁ : State} {rest : List Turn} {e : Expect} {cr : Word} {r : List Byte} (hi : s.Inv)
    (he : s.expects = some e) (hs : s.turns = .takeNotify :: rest) (hp : s.ntfPend = true) (hpos : 0 < e.length)
    (hlt : e.length < 2 ^ 16) (hn : (e.length : Int) ≤ s.ntfRx.toInt)
    (hr : { s with turns := rest, ntfPend := false }.uartRead e.length = (cr, r, s₁)) :
    (cr ≠ BitVec.ofNat 32 e.length → step s = .next (ended .unexpectedError [] s₁)) ∧
      (cr = BitVec.ofNat 32 e.length → r.length = e.length ∧
        ∀ i, decodeReply s.cfg e r = .ok i → step s = exec i s₁) := by
  have hfetch := State.fetch_takeNotify_readUnit hs hp (hi.meets_rxThr he hpos hlt hn) he
  have hcount : cr.toInt = (e.length : Int) ↔ cr = BitVec.ofNat 32 e.length := toInt_eq_natCast_iff (by omega)
  have harmed : s₁.tmrArmed = true :=
    (State.uartRead_sameRegisters_of_notify hr).tmrArmed.trans (hi.armed (State.expects_busy he))
  rw [ne_eq, ← hcount]
  constructor
  · intro hne
    have habort : s₁.abort .unexpectedError = ended .unexpectedError [] s₁ := State.abort_armed harmed _
    exact step_of_fetch_done (by simp [hfetch, State.readUnit, hr, hne, habort])
  · intro heq
    exact ⟨State.uartRead_length hr heq, fun i hd => step_of_fetch_run (by simp [hfetch, State.readUnit, hr, heq, hd])⟩

end Sys2Proof.Machine
end

section
/-! Proofs of the transition rules (41_state_machine.md R135 to R143), from the arbiter's turn to the state after the step:
a drained transmit buffer, the two ack states, the two response states, the timer and the defined no-ops. -/

namespace Sys2Proof.Machine

/-! ### The Sending states (R135, R137, R141) -/

/-- In a state with thresholds `(0, P_TX_CAP)` a notification of a fully free transmit buffer is a `TxFree`. -/
theorem step_takeNotify_txFree {s : State} {rest : List Turn} (hi : s.Inv) (hthr : s.thr s.state = (0, s.cfg.txCap))
    (hcap : s.cfg.txCap ≠ 0) (hs : s.turns = .takeNotify :: rest) (hp : s.ntfPend = true)
    (hn : (s.cfg.txCap.toNat : Int) ≤ s.ntfTx.toInt) :
    meets s.ntfTx s.txThr = true ∧ step s = .next ({ s with turns := rest, ntfPend := false }.onTxFree s.ntfTx) := by
  obtain ⟨hrx, htx⟩ := Prod.mk.inj (hi.thresholdsSet.trans hthr)
  have hunmet : meets s.ntfRx s.rxThr = false := by rw [hrx, meets_zero]
  have hmet : meets s.ntfTx s.txThr = true := by rw [htx]; exact meets_eq_true_iff.2 ⟨hcap, hn⟩
  exact ⟨hmet, step_of_fetch_done (State.fetch_takeNotify_event hs hp (State.notifyEvent_eq_txFree hunmet hmet))⟩

/-- Settles O41: the notification is a `TxFree` that meets its threshold, and each Sending state's arm of it is taken. -/
theorem drainedBufferMovesOn : Obligations.DrainedBufferMovesOn := by
  intro s rest hi hcap hs hp hn
  refine ⟨fun hst => ?_, fun hst => ?_, fun hst => ?_⟩
  · obtain ⟨hm, hstep⟩ := step_takeNotify_txFree hi (by rw [hst]; rfl) hcap hs hp hn
    rw [hstep]
    simp [State.onTxFree, hm, hst, State.enter_armed, hi.armed, State.thr]
  · obtain ⟨hm, hstep⟩ := step_takeNotify_txFree hi (by rw [hst]; rfl) hcap hs hp hn
    rw [hstep]
    simp [State.onTxFree, hm, hst, State.enter_armed, hi.armed, State.thr]
  · obtain ⟨hm, hstep⟩ := step_takeNotify_txFree hi (by rw [hst]; rfl) hcap hs hp hn
    rw [hstep]
    simp [State.onTxFree, hm, hst, State.finish_armed, hi.armed]

/-! ### The ack states (R136, R138) -/

/-- The byte read as an ack runs as its verdict (R105). -/
theorem exec_decodeReply_ack {cfg : Config} {b : Byte} {i : Instr} {s : State} (hcfg : s.cfg = cfg)
    (hd : decodeReply cfg .ack [b] = .ok i) : exec i s = .next (s.onAck (decAck cfg b)) := by
  subst hcfg
  by_cases hb : b = s.cfg.ack
  · simp only [decodeReply, if_pos hb, Except.ok.injEq] at hd
    rw [← hd, hb]
    rfl
  · simp only [decodeReply, if_neg hb, Except.ok.injEq] at hd
    rw [← hd]
    rfl

/-- What the step that reads an ack ends in, in both ack states: another count than 1 is `UnexpectedError`, and the one
byte read acts as its verdict. -/
theorem step_reads_ack {s s₁ : State} {rest : List Turn} {cr : Word} {r : List Byte} (hi : s.Inv)
    (he : s.expects = some .ack) (hs : s.turns = .takeNotify :: rest) (hp : s.ntfPend = true) (hn : 1 ≤ s.ntfRx.toInt)
    (hr : { s with turns := rest, ntfPend := false }.uartRead 1 = (cr, r, s₁)) :
    (cr ≠ 1 → step s = .next (ended .unexpectedError [] s₁)) ∧
      (cr = 1 → ∃ b, r = [b] ∧ step s = .next (s₁.onAck (decAck s.cfg b))) := by
  obtain ⟨hbad, hgood⟩ := step_reads_unit hi he hs hp (by decide) (by decide) hn hr
  refine ⟨hbad, fun hcr => ?_⟩
  obtain ⟨hlen, hrun⟩ := hgood hcr
  obtain ⟨b, rfl⟩ := List.length_eq_one_iff.1 hlen
  have hcfg : s₁.cfg = s.cfg := (State.uartRead_sameRegisters_of_notify hr).cfg
  obtain ⟨i, hd⟩ : ∃ i, decodeReply s.cfg .ack [b] = .ok i := by
    by_cases hb : b = s.cfg.ack <;> simp [decodeReply, hb]
  exact ⟨b, rfl, (hrun i hd).trans (exec_decodeReply_ack hcfg hd)⟩

theorem State.onAck_rejected {s : State} (ha : s.tmrArmed = true)
    (hs : s.state = .waitingBeginAck ∨ s.state = .waitingEndAck) : s.onAck .rejected = ended .protocolNack [] s := by
  have habort : s.abort .protocolNack = ended .protocolNack [] s := State.abort_armed ha _
  obtain hs | hs := hs <;> simp [State.onAck, hs, habort]

theorem State.onAck_begin_accepted {s : State} (hs : s.state = .waitingBeginAck) :
    s.onAck .accepted = s.submit (s.outbuf.take s.outlen) .sendingData := by
  simp [State.onAck, hs]

theorem State.onAck_end_accepted_write {s : State} (hs : s.state = .waitingEndAck) (ho : s.opcode = s.cfg.opWrite) :
    s.onAck .accepted = s.finish .success [] := by
  simp [State.onAck, hs, ho]

theorem State.onAck_end_accepted_read {s : State} (hs : s.state = .waitingEndAck) (ho : s.opcode ≠ s.cfg.opWrite) :
    s.onAck .accepted = s.enter .waitingResponseLength := by
  simp [State.onAck, hs, ho]

/-- Settles O42: the ack's read by `step_reads_ack`; an accept submits the body, whose write ends one of two ways. -/
theorem beginAckRule : Obligations.BeginAckRule := by
  intro s s₁ rest cr r hi hst hs hp hn hr
  obtain ⟨hbad, hgood⟩ := step_reads_ack hi (by simp [State.expects, hst]) hs hp hn hr
  refine ⟨hbad, fun hcr => ?_⟩
  obtain ⟨b, rfl, hstep⟩ := hgood hcr
  have hkeep := State.uartRead_sameRegisters_of_notify hr
  have hst₁ : s₁.state = .waitingBeginAck := hkeep.state.trans hst
  have harmed : s₁.tmrArmed = true := hkeep.tmrArmed.trans (hi.armed (by simp [hst]))
  refine ⟨b, rfl, fun hb => ?_, fun hb nw s₂ hw => ?_⟩
  · rw [hstep, decAck_eq_rejected_iff.2 hb, State.onAck_rejected harmed (.inl hst₁)]
  · have hcfg : s₂.cfg = s.cfg := (State.uartWrite_sameRegisters hw).cfg.trans hkeep.cfg
    obtain ⟨hshort, hwhole⟩ := State.submit_armed (st := .sendingData) hw harmed (by decide)
    rw [hstep, decAck_eq_accepted_iff.2 hb, State.onAck_begin_accepted hst₁, hkeep.outbuf, hkeep.outlen]
    exact ⟨fun h => congrArg _ (hshort h), fun h => by rw [hwhole h, State.thr, hcfg]⟩

/-- Settles O43: the ack's read by `step_reads_ack`; an accept ends a write and moves a read on. -/
theorem endAckRule : Obligations.EndAckRule := by
  intro s s₁ rest cr r hi hst hs hp hn hr
  obtain ⟨hbad, hgood⟩ := step_reads_ack hi (by simp [State.expects, hst]) hs hp hn hr
  refine ⟨hbad, fun hcr => ?_⟩
  obtain ⟨b, rfl, hstep⟩ := hgood hcr
  have hkeep := State.uartRead_sameRegisters_of_notify hr
  have hcfg : s₁.cfg = s.cfg := hkeep.cfg
  have hop : s₁.opcode = s.opcode := hkeep.opcode
  have hst₁ : s₁.state = .waitingEndAck := hkeep.state.trans hst
  have harmed : s₁.tmrArmed = true := hkeep.tmrArmed.trans (hi.armed (by simp [hst]))
  refine ⟨b, rfl, fun hb => ?_, fun hb ho => ?_, fun hb ho => ?_⟩
  · rw [hstep, decAck_eq_rejected_iff.2 hb, State.onAck_rejected harmed (.inr hst₁)]
  · rw [hstep, decAck_eq_accepted_iff.2 hb, State.onAck_end_accepted_write hst₁ (by rw [hop, hcfg, ho]),
      State.finish_armed harmed]
  · rw [hstep, decAck_eq_accepted_iff.2 hb, State.onAck_end_accepted_read hst₁ (by rwa [hop, hcfg]),
      State.enter_armed harmed (by decide), State.thr, hcfg]

/-! ### The response states (R139, R140) -/

theorem join16_eq_iff_toNat {c0 c1 : Byte} {v : Half} : c0.toNat + 256 * c1.toNat = v.toNat ↔ join16 c0 c1 = v := by
  rw [← join16_toNat, BitVec.toNat_inj]

theorem exec_rspHeader_good {s : State} {head : RspHead} {crc : Half} {d : Nat} (ha : s.tmrArmed = true)
    (hs : s.state = .waitingResponseLength) (hd : decRspHdr s.cfg head.h0 crc = some d) :
    exec (.rspHeader head crc) s =
      .next (moved .waitingResponseData (BitVec.ofNat 16 (d + 2)) 0 { s with rspLenM1 := head.h0, declLen := d }) := by
  simp only [exec, execRspHeader, if_pos hs, hd]
  exact congrArg _ (State.enter_armed ha (by decide))

theorem exec_rspHeader_bad {s : State} {head : RspHead} {crc : Half} (ha : s.tmrArmed = true)
    (hs : s.state = .waitingResponseLength) (hd : decRspHdr s.cfg head.h0 crc = none) :
    exec (.rspHeader head crc) s = .next (ended .checksumError [] s) := by
  simp only [exec, execRspHeader, if_pos hs, hd]
  exact congrArg _ (State.abort_armed ha _)

theorem decRspHdr_eq_none_iff {cfg : Config} {h0 : Byte} {crc : Half} :
    decRspHdr cfg h0 crc = none ↔ crc ≠ crc16 cfg.crcOrder [h0] ∨ cfg.maxPayload < 1 + declared cfg h0 := by
  unfold decRspHdr
  split_ifs with hcrc hmax <;> simp_all

/-- Settles O44: the header's read by `step_reads_unit`, then the two answers of `DEC_RSP_HDR`. -/
theorem responseHeaderRule : Obligations.ResponseHeaderRule := by
  intro s s₁ rest cr r hi hspec hst hs hp hn hr
  have he : s.expects = some (.header 3) := by simp [State.expects, hst, hspec.2]
  obtain ⟨hbad, hgood⟩ := step_reads_unit hi he hs hp (by decide) (by decide) hn hr
  refine ⟨hbad, fun hcr => ?_⟩
  obtain ⟨hlen, hrun⟩ := hgood hcr
  obtain ⟨h0, c0, c1, rfl⟩ := List.length_eq_three.1 hlen
  have hkeep := State.uartRead_sameRegisters_of_notify hr
  have hcfg : s₁.cfg = s.cfg := hkeep.cfg
  have hst₁ : s₁.state = .waitingResponseLength := hkeep.state.trans hst
  have harmed : s₁.tmrArmed = true := hkeep.tmrArmed.trans (hi.armed (by simp [hst]))
  have hstep : step s = exec (.rspHeader ⟨h0, []⟩ (join16 c0 c1)) s₁ := hrun _ rfl
  refine ⟨h0, c0, c1, rfl, fun hrej => ?_, fun hcrc hmax => ?_⟩
  · rw [hstep, exec_rspHeader_bad harmed hst₁]
    rwa [hcfg, decRspHdr_eq_none_iff, declared_of_specFormat hspec, ne_eq, ← join16_eq_iff_toNat]
  · rw [hstep, exec_rspHeader_good harmed hst₁]
    rw [hcfg, decRspHdr_eq_some_iff, declared_of_specFormat hspec]
    exact ⟨join16_eq_iff_toNat.1 hcrc, rfl, hmax⟩

theorem exists_data_crc {r : List Byte} {n : Nat} (h : r.length = n + 2) :
    ∃ data c0 c1, r = data ++ [c0, c1] ∧ data.length = n := by
  obtain ⟨c0, c1, hc⟩ := List.length_eq_two.1 (show (r.drop n).length = 2 by simp [h])
  exact ⟨r.take n, c0, c1, by rw [← hc, List.take_append_drop], by simp [h]⟩

theorem exec_rspData_bad {s : State} {data : List Byte} {crc : Half} (ha : s.tmrArmed = true)
    (hs : s.state = .waitingResponseData) (hlen : data.length = s.declLen)
    (hcrc : crc ≠ crc16 s.cfg.crcOrder (dataCovered s.cfg s.rspLenM1 data)) :
    exec (.rspData data crc) s = .next (ended .checksumError [] s) := by
  simp [exec, execRspData, hs, hlen, decRspPayload, hcrc, State.abort_armed ha, FailCode.outcome]

theorem exec_rspData_good {s : State} {data : List Byte} {crc : Half} (hs : s.state = .waitingResponseData)
    (hlen : data.length = s.declLen) (hcrc : crc = crc16 s.cfg.crcOrder (dataCovered s.cfg s.rspLenM1 data)) :
    exec (.rspData data crc) s = .next ((s.loadResponse data).submit [s.cfg.rspAck] .sendingResponseAck) := by
  simp [exec, execRspData, hs, hlen, decRspPayload, hcrc, encRspAck]

/-- While the response data are awaited `DECL_LEN` is the length of the accepted header, and `INBUF` has room (R27, R28). -/
theorem State.Inv.declLen_of_waitingResponseData {s : State} (hi : s.Inv) (hst : s.state = .waitingResponseData) :
    s.declLen = declared s.cfg s.rspLenM1 ∧ s.declLen ≤ s.inbuf.length := by
  obtain ⟨-, -, -, -, -, hheader, ⟨-, hin, -⟩, -⟩ := hi
  obtain ⟨hdecl, hmax⟩ := (if_pos (.inl hst)).mp hheader
  exact ⟨hdecl, by omega⟩

/-- Settles O45: the data's read by `step_reads_unit`, the checksum by `DEC_RSP_PAYLOAD`, then the response-ack's write. -/
theorem responseDataRule : Obligations.ResponseDataRule := by
  intro s s₁ rest cr r hi hspec hst hs hp hn hr
  obtain ⟨hdecl, hroom⟩ := hi.declLen_of_waitingResponseData hst
  have hshort : s.declLen + 2 < 2 ^ 16 := by
    have := s.rspLenM1.isLt
    rw [hdecl, declared_of_specFormat hspec]
    omega
  have he : s.expects = some (.data s.declLen) := by simp [State.expects, hst]
  obtain ⟨hbad, hgood⟩ := step_reads_unit hi he hs hp (Nat.succ_pos _) hshort (by exact_mod_cast hn) hr
  refine ⟨hbad, fun hcr => ?_⟩
  obtain ⟨hlen, hrun⟩ := hgood hcr
  obtain ⟨data, c0, c1, rfl, hdata⟩ := exists_data_crc hlen
  have hkeep := State.uartRead_sameRegisters_of_notify hr
  have hst₁ : s₁.state = .waitingResponseData := hkeep.state.trans hst
  have harmed : s₁.tmrArmed = true := hkeep.tmrArmed.trans (hi.armed (by simp [hst]))
  have hdata₁ : data.length = s₁.declLen := hdata.trans hkeep.declLen.symm
  have hstep : step s = exec (.rspData data (join16 c0 c1)) s₁ := hrun _ (hdata ▸ decodeReply_data s.cfg data c0 c1)
  have hcover : crc16 s₁.cfg.crcOrder (dataCovered s₁.cfg s₁.rspLenM1 data) = crc16 s.cfg.crcOrder (s.rspLenM1 :: data) := by
    rw [hkeep.cfg, hkeep.rspLenM1, dataCovered_of_specFormat hspec]
  have hload : s₁.loadResponse data = { s₁ with inbuf := data ++ s.inbuf.drop data.length, inlen := s.declLen } := by
    rw [State.loadResponse, hkeep.inbuf, hkeep.declLen, overwrite_fits (hdata ▸ hroom)]
  refine ⟨data, c0, c1, rfl, hdata, fun hcrc => ?_, fun hcrc nw s₂ hw => ?_⟩
  · rw [hstep, exec_rspData_bad harmed hst₁ hdata₁]
    rwa [hcover, ne_eq, ← join16_eq_iff_toNat]
  · have hcfg : s₂.cfg = s.cfg := (State.uartWrite_sameRegisters hw).cfg.trans hkeep.cfg
    obtain ⟨hrefused, htaken⟩ := State.submit_armed (st := .sendingResponseAck) hw harmed (by decide)
    rw [hstep, exec_rspData_good hst₁ hdata₁ (hcover.symm ▸ join16_eq_iff_toNat.1 hcrc), hkeep.cfg, hload]
    exact ⟨fun h => congrArg _ (hrefused h), fun h => by rw [htaken h, State.thr, hcfg]⟩

/-! ### The timer and the defined no-ops (R142, R143) -/

/-- Settles O47: the three cases of the timer latch's step, the first of which a pending fire excludes. -/
theorem timerFireRule : Obligations.TimerFireRule := by
  intro s rest hs hp
  rw [step_takeTimer hs]
  obtain ⟨hidle, -⟩ | ⟨-, harmed, hgen, h⟩ | ⟨-, hstale, h⟩ := { s with turns := rest }.consumeTimer_cases
  · exact absurd (hp.symm.trans hidle) (by decide)
  · refine ⟨fun _ _ => congrArg _ (h.trans (State.abort_armed ?_ _)), fun hn => absurd ⟨harmed, hgen⟩ hn⟩
    exact harmed
  · exact ⟨fun ha hg => absurd ⟨ha, hg⟩ hstale, fun _ => by rw [h]⟩

/-- A pending cancel of no transaction in flight is a no-op but for its latch (R142, R194). -/
theorem step_takeCancel_noOp {s : State} {rest : List Turn} (hs : s.turns = .takeCancel :: rest) (hp : s.canPend = true)
    (h : s.state = .ready ∨ s.canTag ≠ s.tag) : step s = .next { s with turns := rest, canPend := false } := by
  rw [step_takeCancel hs]
  obtain ⟨hidle, -⟩ | ⟨-, hbusy, htag, -⟩ | ⟨-, -, hc⟩ := { s with turns := rest }.consumeCancel_cases
  · exact absurd (hp.symm.trans hidle) (by decide)
  · exact absurd h (not_or.2 ⟨hbusy, not_not.2 htag⟩)
  · rw [hc]

/-- Settles O49: an event below its threshold, a notification that makes none, a stale fire and a cancel of nothing. -/
theorem definedNoOps : Obligations.DefinedNoOps := by
  refine fun s => ⟨fun n h => State.onRxAvailable_unmet (meets_eq_false_iff.2 h),
    fun n h => congrArg _ (State.onTxFree_unmet (meets_eq_false_iff.2 h)), fun rest hs hp hrx htx => ?_,
    fun rest hs hp h => (timerFireRule s rest hs hp).2 ?_, fun rest hs hp h => step_takeCancel_noOp hs hp h⟩
  · have hnone : s.notifyEvent = none :=
      State.notifyEvent_eq_none (meets_eq_false_iff.2 hrx) (meets_eq_false_iff.2 htx)
    exact step_of_fetch_done (State.fetch_takeNotify_no_event hs hp hnone)
  · rintro ⟨harmed, hgen⟩
    simp [harmed, hgen] at h

end Sys2Proof.Machine
end

section
/-! Proofs about the command API (42_command_api.md R170 to R172): what each answer to a command is and leaves unchanged,
the same for both commands up to the opcode and the payload, and the cancel. -/

namespace Sys2Proof.Machine

/-! ### The write of one byte (R190) -/

/-- A write answered inside the contract: the bytes taken join the transmit buffer, whatever the answer's source. -/
theorem State.uartWrite_inContract {s : State} {bytes : List Byte} (h : writeInContract s.answer.1 bytes.length = true) :
    s.uartWrite bytes = (s.answer.1, { s.answer.2 with
      trTx := s.trTx ++ bytes.take (bytes.length - s.answer.1.toInt.toNat)
      history := s.history ++ [.uartWrite bytes s.answer.1] }) := by
  obtain ⟨as, d, ha⟩ := s.answer_frame
  simp [State.uartWrite, h, ha, State.emit]

theorem State.uartWrite_byte_refused {s : State} (b : Byte) (h : s.answer.1 = 1) :
    s.uartWrite [b] = (1, { s.answer.2 with history := s.history ++ [.uartWrite [b] 1] }) := by
  obtain ⟨as, d, ha⟩ := s.answer_frame
  rw [State.uartWrite_inContract (by rw [h]; rfl), h, ha]
  simp

theorem State.uartWrite_byte_taken {s : State} (b : Byte) (h : s.answer.1 = 0) :
    s.uartWrite [b] =
      (0, { s.answer.2 with trTx := s.trTx ++ [b], history := s.history ++ [.uartWrite [b] 0] }) := by
  rw [State.uartWrite_inContract (by rw [h]; rfl), h]
  simp

theorem State.uartWrite_fst (bytes : List Byte) (s : State) : (s.uartWrite bytes).1 = s.answer.1 := rfl

/-! ### Admission, answer by answer (R170, R214) -/

theorem State.admission_busy {s : State} (e : Option Request) (hs : s.state ≠ .ready) :
    s.admission e = { s with history := s.history ++ [.admission .driverBusy 0] } := by
  simp [State.admission, hs, State.emit]

/-- The state after a request is admitted on an idle block, register by register (R170). -/
def admittedAs (q : Request) (s : State) : State :=
  { s.answer.2 with
    state := .sendingOpcode
    opcode := q.opcode
    outbuf := q.body ++ s.outbuf.drop q.body.length
    outlen := q.body.length
    tag := s.nextTag
    nextTag := s.nextTag + 1
    rxThr := 0
    txThr := s.cfg.txCap
    trRxThr := 0
    trTxThr := s.cfg.txCap
    tmrArmed := true
    tmrGen := s.tmrGen + 1
    wait := some ⟨s.tmrGen + 1, .sendingOpcode, s.cfg.tWait.sendingOpcode⟩
    trTx := s.trTx ++ [q.opcode]
    history := s.history ++ [.uartWrite [q.opcode] 0, .uartSetThreshold 0 s.cfg.txCap,
      .timerArm (s.tmrGen + 1) .sendingOpcode, .admission .admitted s.nextTag] }

/-- What holds of an idle block: the timer is off and `OUTBUF` has the size its register has (R39, R26). -/
theorem State.Inv.idle {s : State} (hi : s.Inv) (hs : s.state = .ready) :
    s.tmrArmed = false ∧ s.outbuf.length = s.cfg.maxPayload + 2 := by
  obtain ⟨hready, -, -, -, -, -, ⟨hsize, -⟩, -⟩ := hi
  obtain ⟨-, -, -, -, -, -, -, harmed⟩ := hready hs
  exact ⟨harmed, hsize⟩

/-- An opcode byte the transport takes: the request is loaded and `SendingOpcode` entered, on a timer not armed. -/
theorem State.admission_taken {s : State} {q : Request} (hi : s.Inv) (hs : s.state = .ready)
    (hfit : q.body.length ≤ s.cfg.maxPayload + 2) (h : s.answer.1 = 0) :
    s.admission (some q) = admittedAs q s := by
  obtain ⟨harmed, hsize⟩ := hi.idle hs
  obtain ⟨as, d, ha⟩ := s.answer_frame
  have hover : overwrite s.outbuf q.body = q.body ++ s.outbuf.drop q.body.length := overwrite_fits (hsize ▸ hfit)
  have hadm : s.admission (some q) = (((s.uartWrite [q.opcode]).2.loadRequest q).enter .sendingOpcode).emit
      (.admission .admitted (s.uartWrite [q.opcode]).2.nextTag) := by
    simp [State.admission, hs, State.uartWrite_fst, h]
  rw [hadm, State.uartWrite_byte_taken _ h, State.enter_busy (by decide), admittedAs, ha]
  simp [State.loadRequest, State.emit, State.thr, State.disarmOut, harmed, hover, WaitBounds.of]

/-! ### The five answers to a framed command

`op` is the opcode and `p` the payload: 9 bytes for a write (R71), 5 for a read (R72). -/

section
variable {s : State} {op : Byte} {p : List Byte}

theorem frame_of_fits {cfg : Config} (hlen : p.length ≤ cfg.maxPayload) :
    frame cfg op p = some ⟨op, p ++ bytes16 (crc16 cfg.crcOrder (op :: p))⟩ := by
  rw [frame_eq, if_pos hlen]

theorem admission_frame_tooLong (hs : s.state = .ready) (hlen : s.cfg.maxPayload < p.length) :
    s.admission (frame s.cfg op p) = { s with history := s.history ++ [.admission .unexpectedError 0] } := by
  rw [frame, if_pos hlen]
  simp [State.admission, hs, State.emit]

theorem admission_frame_refused (hs : s.state = .ready) (hlen : p.length ≤ s.cfg.maxPayload) (h : s.answer.1 = 1) :
    s.admission (frame s.cfg op p) =
      { s.answer.2 with history := s.history ++ [.uartWrite [op] 1, .admission .serialBufferFull 0] } := by
  simp [frame_of_fits hlen, State.admission, hs, State.uartWrite_byte_refused op h, State.emit]

/-- An anomalous count leaves the block as it was; the transport's state, the draws and the outputs are set apart (I8). -/
theorem admission_frame_anomalous (hs : s.state = .ready) (hlen : p.length ≤ s.cfg.maxPayload) (h0 : s.answer.1 ≠ 0)
    (h1 : s.answer.1 ≠ 1) :
    let t := s.admission (frame s.cfg op p)
    t.history = s.history ++ [.uartWrite [op] s.answer.1, .admission .unexpectedError 0] ∧
      { t with trRx := s.trRx, trTx := s.trTx, trRxThr := s.trRxThr, trTxThr := s.trTxThr, delivered := s.delivered,
               history := s.history, answers := s.answers, draws := s.draws } = s := by
  have hadm : s.admission (frame s.cfg op p) = (s.uartWrite [op]).2.emit (.admission .unexpectedError 0) := by
    rw [frame_of_fits hlen, State.admission, if_neg (not_not.2 hs)]
    exact (if_neg h1).trans (if_pos h0)
  obtain ⟨_, _, _, _, _, _, _, hw⟩ := s.uartWrite_frame [op]
  rw [hadm, hw]
  exact ⟨List.append_assoc .., rfl⟩

theorem admission_frame_admitted (hi : s.Inv) (hs : s.state = .ready) (hlen : p.length ≤ s.cfg.maxPayload)
    (h : s.answer.1 = 0) :
    s.admission (frame s.cfg op p) = admittedAs ⟨op, p ++ bytes16 (crc16 s.cfg.crcOrder (op :: p))⟩ s := by
  rw [frame_of_fits hlen, State.admission_taken hi hs (by simpa [bytes16] using hlen) h]

end

/-- Settles O31: the meaning is `State.admission` of a framed payload of 9 bytes. -/
theorem writeObjectAdmission : Obligations.WriteObjectAdmission := by
  intro s index sub node data p c i a
  have hexec : exec i s = .next (s.admission (frame s.cfg s.cfg.opWrite p)) := rfl
  rw [hexec]
  exact ⟨fun hs => congrArg _ (State.admission_busy _ hs),
    fun hs hlen => congrArg _ (admission_frame_tooLong hs hlen),
    fun hs hlen h => congrArg _ (admission_frame_refused hs hlen h),
    fun hs hlen h0 h1 => ⟨_, rfl, admission_frame_anomalous hs hlen h0 h1⟩,
    fun hi hs hlen h => congrArg _ (admission_frame_admitted hi hs hlen h)⟩

/-- Settles O32: a refusal, or `State.admission` of a framed payload of 5 bytes. -/
theorem readObjectAdmission : Obligations.ReadObjectAdmission := by
  intro s index sub node p c i a
  have hexec (hpath : s.cfg.readPath = .enabled) :
      exec i s = .next (s.admission (frame s.cfg s.cfg.opRead p)) := by
    simp only [i, exec, execCmdReadObject, hpath]
    rfl
  refine ⟨fun hpath => ?_, fun hpath => ?_, fun hpath => ?_, fun hpath => ?_, fun hpath => ?_, fun hi hpath => ?_⟩
  · simp only [i, exec, execCmdReadObject, hpath]
  all_goals rw [hexec hpath]
  · exact fun hs => congrArg _ (State.admission_busy _ hs)
  · exact fun hs hlen => congrArg _ (admission_frame_tooLong hs hlen)
  · exact fun hs hlen h => congrArg _ (admission_frame_refused hs hlen h)
  · exact fun hs hlen h0 h1 => ⟨_, rfl, admission_frame_anomalous hs hlen h0 h1⟩
  · exact fun hs hlen h => congrArg _ (admission_frame_admitted hi hs hlen h)

/-! ### The cancel (R172) -/

/-- `UartDiscardTx` adds no byte and keeps the order of those it leaves (R200, R201). -/
theorem State.uartDiscardTx_sublist (s : State) :
    ∃ tx d, tx.Sublist s.trTx ∧
      s.uartDiscardTx = { s with trTx := tx, draws := d, history := s.history ++ [.uartDiscardTx] } := by
  have h : ((s.trTx.zipIdx.filter fun b => Config.freeKeep s.draws b.2).map Prod.fst).Sublist
      (s.trTx.zipIdx.map Prod.fst) := List.filter_sublist.map _
  rw [List.zipIdx_map_fst] at h
  exact ⟨_, _, h, rfl⟩

/-- Settles O48: of the three cases of the cancel latch's step, the tag in flight is the second; the others are no-ops. -/
theorem cancelRule : Obligations.CancelRule := by
  intro s rest hi hs hp
  refine ⟨fun hbusy htag => ?_, step_takeCancel_noOp hs hp⟩
  obtain ⟨hidle, -⟩ | ⟨-, -, -, hc⟩ | ⟨-, hother, -⟩ := { s with turns := rest }.consumeCancel_cases
  · exact absurd (hp.symm.trans hidle) (by decide)
  · obtain ⟨tx, d, hsub, hd⟩ := { s with turns := rest, canPend := false }.uartDiscardTx_sublist
    refine ⟨tx, d, hsub, ?_⟩
    rw [step_takeCancel hs, hc, hd]
    exact congrArg _ (State.abort_armed (by exact hi.armed hbusy) _)
  · exact absurd ⟨hbusy, htag⟩ hother

end Sys2Proof.Machine
end

section
/-! Proofs about the notification latch (43_event_bridge.md R191): a NOTIFY writes it, and it is one deep. -/

namespace Sys2Proof.Machine

/-- R191: the meaning of NOTIFY is the write of the latch; it answers in every state and runs no core step. -/
theorem exec_notify (rx tx : Word) (s : State) : exec (.notify rx tx) s = .next (s.latchNotify rx tx) := rfl

/-- The latch is one deep (R191): a second write leaves nothing of the first. -/
@[simp] theorem State.latchNotify_latchNotify (rx tx rx' tx' : Word) (s : State) :
    (s.latchNotify rx tx).latchNotify rx' tx' = s.latchNotify rx' tx' := rfl

/-- Settles O28: NOTIFY is the write of the latch, and the second of two writes is the one that stays. -/
theorem notifyWritesLatch : Obligations.NotifyWritesLatch := by
  refine ⟨exec_notify, fun rx tx rx' tx' s t h => ?_⟩
  obtain rfl : s.latchNotify rx tx = t := by simpa [exec_notify] using h
  simp only [exec_notify, State.latchNotify_latchNotify]

end Sys2Proof.Machine
end

section
/-! Proofs about the turn that resets the block (70_reset_and_hazards.md R240, R241): the step is `State.doReset`, which
ends no transaction with a record. -/

namespace Sys2Proof.Machine

/-- R241: the step that takes a reset turn, in any state. -/
theorem step_reset {s : State} {rest : List Turn} (hs : s.turns = .reset :: rest) :
    step s = .next { s with turns := rest }.doReset :=
  step_of_fetch_done (by simp only [State.fetch, hs, State.takeTurn])

@[simp] theorem completedTags_append (h out : List OutEvent) :
    completedTags (h ++ out) = completedTags h ++ completedTags out :=
  List.filterMap_append ..

/-- The one call of a reset is no completion record (R240, R241). -/
@[simp] theorem State.doReset_completedTags (s : State) : completedTags s.doReset.history = completedTags s.history :=
  calc completedTags (s.history ++ [.uartSetThreshold 0 0])
    _ = completedTags s.history ++ [] := completedTags_append ..
    _ = completedTags s.history := List.append_nil _

/-- Settles O12: the step is `State.doReset`, whose registers are those of `State.resetWith`, and its call is no record. -/
theorem resetSetsEveryRegister : Obligations.ResetSetsEveryRegister := by
  intro s rest hs
  refine ⟨_, step_reset hs, ?_⟩
  -- One field of `State.doReset` after another; the completion records are what is left.
  repeat refine ⟨rfl, ?_⟩
  exact State.doReset_completedTags _

end Sys2Proof.Machine
end

section
/-! Proofs about the encodings (30_encoding.md R70 to R83): a unit in front of the transmit bytes, a reply in the state that
expects it and a record each decode to the instruction they encode, and a record's bits are those its instruction gives
back. -/

namespace Sys2Proof.Machine

/-! ### The units the block sends (R70 to R72, R76, R80) -/

/-- The bytes that open the units differ pairwise. -/
theorem UnitsDistinct.ne {c : Config} (h : UnitsDistinct c) :
    c.opRead ≠ c.opWrite ∧ (c.rspAck ≠ c.opWrite ∧ c.rspAck ≠ c.opRead) ∧
      (3#8 ≠ c.opWrite ∧ 3#8 ≠ c.opRead ∧ 3#8 ≠ c.rspAck) ∧ 1#8 ≠ c.opWrite ∧ 1#8 ≠ c.opRead ∧ 1#8 ≠ c.rspAck := by
  simp only [UnitsDistinct, List.nodup_cons, List.mem_cons, List.not_mem_nil, or_false, not_or] at h
  obtain ⟨⟨hwr, hwa, hw3, hw1⟩, ⟨hra, hr3, hr1⟩, ⟨ha3, ha1⟩, -⟩ := h
  exact ⟨Ne.symm hwr, ⟨Ne.symm hwa, Ne.symm hra⟩, ⟨Ne.symm hw3, Ne.symm hr3, Ne.symm ha3⟩,
    Ne.symm hw1, Ne.symm hr1, Ne.symm ha1⟩

/-- Settles O2: the first byte tells the five units apart, and the fields of a body are joined from its bytes. -/
theorem transmittedUnitIsReadBack : Obligations.TransmittedUnitIsReadBack := by
  intro c i u more hdistinct henc
  obtain ⟨hread, hack, h3, h1⟩ := hdistinct.ne
  cases i with
  | writeObject => cases henc; simp [decodeUnit]
  | readObject => cases henc; simp [decodeUnit, hread]
  | responseAck => cases henc; simp [decodeUnit, hack]
  | writeBody => cases henc; simp [decodeUnit, h3]
  | readBody => cases henc; simp [decodeUnit, h1]
  | ackAccept | ackReject | rspHeader | rspData | cmdWriteObject | cmdReadObject | cancel | notify | timerFired
  | reservedKind => cases henc

/-- A unit the block sends, alone on its port, is decoded. -/
theorem decode_toDevice {c : Config} {i : Instr} {u : List Byte} (e : Expect) (hdistinct : UnitsDistinct c)
    (henc : encode c i = .toDevice u) : decode c e (encode c i) = .ok i := by
  have hback := transmittedUnitIsReadBack c i u [] hdistinct henc
  rw [List.append_nil] at hback
  simp [henc, decode, hback]

/-! ### The replies (R74 to R76) -/

theorem decodeReply_header (c : Config) (head : RspHead) (c0 c1 : Byte) :
    decodeReply c (.header (head.fill.length + 3)) (head.h0 :: (head.fill ++ [c0, c1])) =
      .ok (.rspHeader head (join16 c0 c1)) := by
  simp [decodeReply]

/-! ### The latched records (R81) -/

theorem decodeRecord_notify (rx tx : Word) : decodeRecord (tx ++ rx ++ 3#4) = .ok (.notify rx tx) := by
  have hkind := record_kind (tx ++ rx) 3#4
  have hrx : (tx ++ rx ++ 3#4 : Record).extractLsb' 4 32 = rx :=
    (record_field (tx ++ rx) 3#4 4 32 (by omega)).trans BitVec.extractLsb'_append_eq_right
  have htx : (tx ++ rx ++ 3#4 : Record).extractLsb' 36 32 = tx :=
    (record_field (tx ++ rx) 3#4 36 32 (by omega)).trans BitVec.extractLsb'_append_eq_left
  simp [decodeRecord, hkind, hrx, htx]

theorem decodeRecord_timerFired (g : Word) : decodeRecord (0#32 ++ g ++ 4#4) = .ok (.timerFired g) := by
  have hkind := record_kind (0#32 ++ g) 4#4
  have hgen : (0#32 ++ g ++ 4#4 : Record).extractLsb' 4 32 = g :=
    (record_field (0#32 ++ g) 4#4 4 32 (by omega)).trans BitVec.extractLsb'_append_eq_right
  have hzero : (0#32 ++ g ++ 4#4 : Record).extractLsb' 36 32 = 0#32 :=
    (record_field (0#32 ++ g) 4#4 36 32 (by omega)).trans BitVec.extractLsb'_append_eq_left
  simp [decodeRecord, hkind, hgen, hzero]

theorem decodeRecord_cancel (tag : Byte) : decodeRecord (0#56 ++ tag ++ 2#4) = .ok (.cancel tag) := by
  have hkind := record_kind (0#56 ++ tag) 2#4
  have htag : (0#56 ++ tag ++ 2#4 : Record).extractLsb' 4 8 = tag :=
    (record_field (0#56 ++ tag) 2#4 4 8 (by omega)).trans BitVec.extractLsb'_append_eq_right
  have hzero : (0#56 ++ tag ++ 2#4 : Record).extractLsb' 12 56 = 0#56 :=
    (record_field (0#56 ++ tag) 2#4 12 56 (by omega)).trans BitVec.extractLsb'_append_eq_left
  simp [decodeRecord, hkind, htag, hzero]

theorem decodeRecord_reservedKind (kind : BitVec 4) (rest : BitVec 64) (h : 5 ≤ kind.toNat) :
    decodeRecord (rest ++ kind) = .ok (.reservedKind kind rest) := by
  have hkind := record_kind rest kind
  have hrest : (rest ++ kind : Record).extractLsb' 4 64 = rest :=
    (record_field rest kind 4 64 (by omega)).trans (extract_whole rest)
  rw [decodeRecord_of_reservedKind (by rwa [hkind]), hkind, hrest]

/-- Settles O1: a sent unit by `decode_toDevice`, a reply by what its state expects, a record by its KIND. -/
theorem decodeEncodeRoundTrip : Obligations.DecodeEncodeRoundTrip := by
  intro c i hdistinct hwf
  cases i with
  | writeObject | readObject | writeBody | readBody | responseAck => exact decode_toDevice _ hdistinct rfl
  | ackAccept => simp [decode, encode, Instr.expect, decodeReply]
  | ackReject b =>
    have hb : b ≠ c.ack := by simpa [Instr.WellFormed] using hwf
    simp [decode, encode, Instr.expect, decodeReply, hb]
  | rspHeader head crc =>
    refine (decodeReply_header c head (lo8 crc) (hi8 crc)).trans ?_
    rw [join16_lo8_hi8]
  | rspData data crc =>
    refine (decodeReply_data c data (lo8 crc) (hi8 crc)).trans ?_
    rw [join16_lo8_hi8]
  | cmdWriteObject => exact decodeRecord_cmdWriteObject ..
  | cmdReadObject => exact decodeRecord_cmdReadObject ..
  | cancel => exact decodeRecord_cancel _
  | notify => exact decodeRecord_notify ..
  | timerFired => exact decodeRecord_timerFired _
  | reservedKind kind rest => exact decodeRecord_reservedKind kind rest (by simpa [Instr.WellFormed] using hwf)

/-! ### The bits of a record (R81) -/

/-- Two neighbouring fields of a record make one. -/
theorem extract_append_extract {n : Nat} (x : BitVec n) (k w v : Nat) :
    x.extractLsb' (k + w) v ++ x.extractLsb' k w = x.extractLsb' k (v + w) := by
  apply BitVec.eq_of_getLsbD_eq
  intro i hi
  simp only [BitVec.getLsbD_append, BitVec.getLsbD_extractLsb']
  split
  · simp [show i < v + w by omega, *]
  · rw [show k + w + (i - w) = k + i by omega]
    simp [show i - w < v by omega, show i < v + w by omega]

/-- The layout of the command records covers every bit (R81). -/
theorem commandRecord_of_fields (r : Record) :
    r.extractLsb' 36 32 ++ r.extractLsb' 28 8 ++ r.extractLsb' 20 8 ++ r.extractLsb' 4 16 ++ r.extractLsb' 0 4 = r := by
  rw [extract_append_extract r 28 8 32, extract_append_extract r 20 8 40, extract_append_extract r 4 16 48,
    extract_append_extract r 0 4 64]
  exact extract_whole r

/-- Settles O3: a record is its fields put back in their places, whichever layout its KIND gives it. -/
theorem decodedRecordEncodesBack : Obligations.DecodedRecordEncodesBack := by
  intro c r i h
  have hbits := commandRecord_of_fields r
  have hrest : r.extractLsb' 4 64 ++ r.extractLsb' 0 4 = r :=
    (extract_append_extract r 0 4 64).trans (extract_whole r)
  have hcounts : r.extractLsb' 36 32 ++ r.extractLsb' 4 32 = r.extractLsb' 4 64 := extract_append_extract r 4 32 32
  have htag : r.extractLsb' 12 56 ++ r.extractLsb' 4 8 = r.extractLsb' 4 64 := extract_append_extract r 4 8 56
  simp only [decodeRecord] at h
  split at h
  case isTrue h0 =>
    cases h
    rw [h0] at hbits
    exact congrArg _ hbits
  split at h
  case isTrue h1 =>
    split at h <;> cases h
    next hz =>
      rw [h1, hz] at hbits
      exact congrArg _ hbits
  split at h
  case isTrue h2 =>
    split at h <;> cases h
    next hz =>
      rw [← htag, h2, hz] at hrest
      exact congrArg _ hrest
  split at h
  case isTrue h3 =>
    cases h
    rw [← hcounts, h3] at hrest
    exact congrArg _ hrest
  split at h
  case isTrue h4 =>
    split at h <;> cases h
    next hz =>
      rw [← hcounts, h4, hz] at hrest
      exact congrArg _ hrest
  cases h
  exact congrArg _ hrest

/-! ### The request round trip (40_codec.md R110) -/

/-- A request an encoder returns is its framed payload under its opcode (R103, R104). -/
theorem eq_framed_of_frame_eq_some {cfg : Config} {op : Byte} {p : List Byte} {q : Request} (h : frame cfg op p = some q) :
    q = ⟨op, framed cfg.crcOrder op p⟩ ∧ p.length ≤ cfg.maxPayload := by
  rw [frame_eq] at h
  split_ifs at h with hlen
  exact ⟨(Option.some.inj h).symm, hlen⟩

/-- Settles O9: `DEC_REQ` recovers the fields of a framed payload. -/
theorem requestRoundTrip : Obligations.RequestRoundTrip := by
  refine ⟨fun cfg index sub node data q h => ?_, fun cfg index sub node q h => ?_⟩
  · obtain ⟨rfl, -⟩ := eq_framed_of_frame_eq_some h
    exact decReq_eq_write_iff.2 ⟨rfl, rfl⟩
  · obtain ⟨rfl, -⟩ := eq_framed_of_frame_eq_some h
    exact decReq_eq_read_iff.2 ⟨rfl, rfl⟩

set_option maxRecDepth 20000 in
/-- Settles O5: the words of the vectors are fixed values, and each is decoded by computing. -/
theorem vectorWordsDecode : Obligations.VectorWordsDecode :=
  ⟨by decide, by decide, by decide, by decide, by decide, by decide, by decide, by decide, by decide⟩

end Sys2Proof.Machine
end

section
/-! What a step can do (43_event_bridge.md R202), said once: `step_effect`. A step stays where it is, answers a command, moves
the transaction on, ends it, or resets; and each of these starts from a state `Underway`, which the step has reached by
taking its turn and making its calls of the transport. -/

namespace Sys2Proof.Machine

/-! ### What the transport's calls leave alone -/

/-- The configuration, the registers but the three latches, the running wait and the true capacity of `s`; the latches, the
link, the history and the free choices are wiped. -/
def State.bare (s : State) : State :=
  { s with
    ntfPend := false, ntfRx := 0, ntfTx := 0, tmfPend := false, tmfGen := 0, canPend := false, canTag := 0
    trRx := [], trTx := [], trRxThr := 0, trTxThr := 0, delivered := []
    history := [], turns := [], answers := [], draws := 0 }

/-- The configuration, the registers but the latches, the running wait and the true capacity are in `u` as in `s`. -/
def SameBlock (s u : State) : Prop := u.bare = s.bare

namespace SameBlock

variable {s u : State}

theorem cfg (h : SameBlock s u) : u.cfg = s.cfg := (congrArg State.cfg h :)
theorem state (h : SameBlock s u) : u.state = s.state := (congrArg State.state h :)
theorem opcode (h : SameBlock s u) : u.opcode = s.opcode := (congrArg State.opcode h :)
theorem outbuf (h : SameBlock s u) : u.outbuf = s.outbuf := (congrArg State.outbuf h :)
theorem outlen (h : SameBlock s u) : u.outlen = s.outlen := (congrArg State.outlen h :)
theorem inbuf (h : SameBlock s u) : u.inbuf = s.inbuf := (congrArg State.inbuf h :)
theorem inlen (h : SameBlock s u) : u.inlen = s.inlen := (congrArg State.inlen h :)
theorem declLen (h : SameBlock s u) : u.declLen = s.declLen := (congrArg State.declLen h :)
theorem tag (h : SameBlock s u) : u.tag = s.tag := (congrArg State.tag h :)
theorem nextTag (h : SameBlock s u) : u.nextTag = s.nextTag := (congrArg State.nextTag h :)
theorem rxThr (h : SameBlock s u) : u.rxThr = s.rxThr := (congrArg State.rxThr h :)
theorem txThr (h : SameBlock s u) : u.txThr = s.txThr := (congrArg State.txThr h :)
theorem tmrArmed (h : SameBlock s u) : u.tmrArmed = s.tmrArmed := (congrArg State.tmrArmed h :)
theorem tmrGen (h : SameBlock s u) : u.tmrGen = s.tmrGen := (congrArg State.tmrGen h :)
theorem wait (h : SameBlock s u) : u.wait = s.wait := (congrArg State.wait h :)
theorem trCap (h : SameBlock s u) : u.trCap = s.trCap := (congrArg State.trCap h :)

end SameBlock

/-- Each latch that is pending in `s` is pending in `t`, unless the turn `s` takes is that latch's (R195). -/
def LatchesKept (s t : State) : Prop :=
  (s.ntfPend = true → s.turns.head? ≠ some .takeNotify → t.ntfPend = true) ∧
  (s.tmfPend = true → s.turns.head? ≠ some .takeTimer → t.tmfPend = true) ∧
  (s.canPend = true → s.turns.head? ≠ some .takeCancel → t.canPend = true)

/-- The outputs that are calls a rule makes to the transport for bytes (R190, R200). -/
def OutEvent.isCall : OutEvent → Bool
  | .uartWrite .. | .uartRead .. | .uartDiscardTx => true
  | .uartSetThreshold .. | .timerArm .. | .timerDisarm | .admission .. | .complete .. => false

/-- Calls that take nothing out of the receive buffer: no read, and no write answered outside the contract (R190, I8). -/
def KeepsReceived (out : List OutEvent) : Prop :=
  (∀ n cr r, OutEvent.uartRead n cr r ∉ out) ∧
    ∀ bytes nw, OutEvent.uartWrite bytes nw ∈ out → 0 ≤ nw.toInt ∧ nw.toInt ≤ bytes.length

theorem KeepsReceived.left {out out' : List OutEvent} (h : KeepsReceived (out ++ out')) : KeepsReceived out :=
  ⟨fun n cr r hm => h.1 n cr r (List.mem_append_left _ hm), fun b nw hm => h.2 b nw (List.mem_append_left _ hm)⟩

/-- The step from `s` has taken its turn and made the calls `out`, and stands at `u`. -/
structure Underway (s u : State) (out : List OutEvent) : Prop where
  same : SameBlock s u
  latches : LatchesKept s u
  history : u.history = s.history ++ out
  calls : ∀ e ∈ out, e.isCall = true
  received : KeepsReceived out → u.trRx = s.trRx

namespace Underway

variable {s u : State} {out : List OutEvent}

/-- The turn has been taken. -/
theorem turn (s : State) (rest : List Turn) : Underway s { s with turns := rest } [] :=
  ⟨rfl, ⟨fun h _ => h, fun h _ => h, fun h _ => h⟩, (List.append_nil _).symm, by simp, fun _ => rfl⟩

/-- The turn of a latch has been taken, and the latch is clear. -/
theorem turnNotify {rest : List Turn} (hs : s.turns = .takeNotify :: rest) :
    Underway s { s with turns := rest, ntfPend := false } [] :=
  ⟨rfl, ⟨fun _ h => absurd (by rw [hs]; rfl) h, fun h _ => h, fun h _ => h⟩, (List.append_nil _).symm, by simp, fun _ => rfl⟩

theorem turnTimer {rest : List Turn} (hs : s.turns = .takeTimer :: rest) :
    Underway s { s with turns := rest, tmfPend := false } [] :=
  ⟨rfl, ⟨fun h _ => h, fun _ h => absurd (by rw [hs]; rfl) h, fun h _ => h⟩, (List.append_nil _).symm, by simp, fun _ => rfl⟩

theorem turnCancel {rest : List Turn} (hs : s.turns = .takeCancel :: rest) :
    Underway s { s with turns := rest, canPend := false } [] :=
  ⟨rfl, ⟨fun h _ => h, fun h _ => h, fun _ h => absurd (by rw [hs]; rfl) h⟩, (List.append_nil _).symm, by simp, fun _ => rfl⟩

/-- One more call's output. -/
theorem calls_concat (h : Underway s u out) {e : OutEvent} (he : e.isCall = true) : ∀ e' ∈ out ++ [e], e'.isCall = true := by
  intro e' hm
  obtain hm | hm := List.mem_append.1 hm
  · exact h.calls e' hm
  · rwa [List.mem_singleton.1 hm]

theorem uartRead (h : Underway s u out) (n : Nat) :
    Underway s (u.uartRead n).2.2 (out ++ [.uartRead n (u.uartRead n).1 (u.uartRead n).2.1]) := by
  obtain ⟨_, _, _, _, _, _, _, hf⟩ := u.uartRead_frame n
  refine ⟨?_, ?_, ?_, h.calls_concat rfl, fun hk => absurd (List.mem_append_right _ (List.mem_singleton.2 rfl)) (hk.1 _ _ _)⟩
  · rw [hf]; exact h.same
  · rw [hf]; exact h.latches
  · rw [hf, ← List.append_assoc, ← h.history]

theorem uartWrite (h : Underway s u out) (bytes : List Byte) :
    Underway s (u.uartWrite bytes).2 (out ++ [.uartWrite bytes (u.uartWrite bytes).1]) := by
  obtain ⟨_, _, _, _, _, _, _, hf⟩ := u.uartWrite_frame bytes
  refine ⟨?_, ?_, ?_, h.calls_concat rfl, fun hk => ?_⟩
  · rw [hf]; exact h.same
  · rw [hf]; exact h.latches
  · rw [hf, ← List.append_assoc, ← h.history]
  · obtain ⟨hlo, hhi⟩ := hk.2 bytes _ (List.mem_append_right _ (List.mem_singleton.2 rfl))
    obtain ⟨_, _, ha⟩ := u.answer_frame
    rw [State.uartWrite_inContract (by simpa [writeInContract] using ⟨hlo, hhi⟩), ha]
    exact h.received hk.left

theorem uartDiscardTx (h : Underway s u out) : Underway s u.uartDiscardTx (out ++ [.uartDiscardTx]) :=
  ⟨h.same, h.latches, (congrArg (· ++ _) h.history).trans (List.append_assoc ..), h.calls_concat rfl,
    fun hk => h.received hk.left⟩

end Underway

/-! ### The kinds of step -/

/-- The step from `s` to `t` stays: the registers but the latches are as they were, received bytes join the receive buffer at
its end, sent bytes leave the transmit buffer at its front. -/
structure Quiet (s t : State) : Prop where
  same : SameBlock s t
  latches : LatchesKept s t
  received : s.trRx <+: t.trRx
  unsent : t.trTx <:+ s.trTx
  trRxThr : t.trRxThr = s.trRxThr
  trTxThr : t.trTxThr = s.trTxThr

/-- The next turn is a command's record (R170, R171). -/
def TakesCommand (s : State) : Prop :=
  ∃ r rest, s.turns = .record r :: rest ∧
    ((∃ index sub node data, decodeRecord r = .ok (.cmdWriteObject index sub node data)) ∨
      ∃ index sub node, decodeRecord r = .ok (.cmdReadObject index sub node))

/-- A request one of the encoders returns (R103, R104). -/
def Encoded (cfg : Config) (q : Request) : Prop :=
  (∃ index sub node data, encWrite cfg index sub node data = some q) ∨
    ∃ index sub node, encRead cfg index sub node = some q

/-- The step from `s` moves the transaction on: at `u` it enters a state from the registers of the last argument (R135 to
R140). -/
inductive Advance (s u : State) : TransactionState → State → Prop
  | opcodeSent (hs : s.state = .sendingOpcode) (hp : s.ntfPend = true) (hm : meets s.ntfTx s.txThr = true) :
    Advance s u .waitingBeginAck u
  | bodyTaken (hs : s.state = .waitingBeginAck) (hbody : s.outbuf.take s.outlen <:+ u.trTx) : Advance s u .sendingData u
  | bodySent (hs : s.state = .sendingData) : Advance s u .waitingEndAck u
  | readAcked (hs : s.state = .waitingEndAck) (hop : s.opcode ≠ s.cfg.opWrite) : Advance s u .waitingResponseLength u
  | headerHeld (hs : s.state = .waitingResponseLength) (h0 : Byte) (d : Nat) (hd : d = declared s.cfg h0)
    (hmax : 1 + d ≤ s.cfg.maxPayload) : Advance s u .waitingResponseData { u with rspLenM1 := h0, declLen := d }
  | dataHeld (hs : s.state = .waitingResponseData) (data : List Byte) (hlen : data.length = s.declLen) :
    Advance s u .sendingResponseAck (u.loadResponse data)

/-- The outcomes and payloads a transaction can end with in the state `s` (R134 to R143, R172). -/
inductive EndsWith (s : State) : TermOutcome → List Byte → Prop
  | nack (hs : s.state = .waitingBeginAck ∨ s.state = .waitingEndAck) : EndsWith s .protocolNack []
  | written (hs : s.state = .waitingEndAck) : EndsWith s .success []
  | checksum (hs : s.state = .waitingResponseLength ∨ s.state = .waitingResponseData) : EndsWith s .checksumError []
  | timeout (hs : s.tmrArmed = true ∨ s.state ≠ .ready) : EndsWith s .timeout []
  | unexpected (hs : s.expects ≠ none) : EndsWith s .unexpectedError []
  | response (hs : s.state = .sendingResponseAck) : EndsWith s .success (s.inbuf.take s.inlen)

/-- What a step from `s` can do, with the state it goes to. -/
inductive Effect (s : State) : State → Prop
  | stays {t : State} {out : List OutEvent} (h : Quiet s t) (ho : out = [] ∨ out = [.admission .driverBusy 0])
    (hh : t.history = s.history ++ out) : Effect s t
  | refuses {u : State} {out : List OutEvent} {res : AdmResult} (hs : s.state = .ready) (hu : Underway s u out)
    (hr : res ≠ .admitted) : Effect s (u.emit (.admission res 0))
  | admits {u : State} {out : List OutEvent} {q : Request} (hs : s.state = .ready) (hc : TakesCommand s)
    (hu : Underway s u out) (hq : Encoded s.cfg q) :
    Effect s (((u.loadRequest q).enter .sendingOpcode).emit (.admission .admitted u.nextTag))
  | moves {u v : State} {out : List OutEvent} {st : TransactionState} (hu : Underway s u out) (hv : Advance s u st v) :
    Effect s (v.enter st)
  | ends {u : State} {out : List OutEvent} {o : TermOutcome} {p : List Byte} (hu : Underway s u out) (ho : EndsWith s o p) :
    Effect s (u.finish o p)
  | resets {rest : List Turn} (hs : s.turns = .reset :: rest) : Effect s { s with turns := rest }.doReset

/-! ### The step of each turn -/

section
variable {s t u : State} {out : List OutEvent}

/-- A step that stays and puts nothing out. -/
theorem Effect.quiet (h : Quiet s t) (hh : t.history = s.history) : Effect s t :=
  .stays h (.inl rfl) (hh.trans (List.append_nil _).symm)

/-- A step that only takes its turn. -/
theorem Effect.idles (hu : Underway s u []) (hrx : u.trRx = s.trRx) (htx : u.trTx = s.trTx) (hr : u.trRxThr = s.trRxThr)
    (ht : u.trTxThr = s.trTxThr) : Effect s u :=
  .stays ⟨hu.same, hu.latches, hrx ▸ List.prefix_rfl, htx ▸ List.suffix_rfl, hr, ht⟩ (.inl rfl) hu.history

/-- Every command is put to admission, and the answer is one of R170's. -/
theorem effect_of_admission {rest : List Turn} {e : Option Request} (hc : TakesCommand s)
    (he : ∀ q, e = some q → Encoded s.cfg q) : Effect s ({ s with turns := rest }.admission e) := by
  have hu := Underway.turn s rest
  obtain ⟨-, h⟩ | ⟨hs, -, h⟩ | ⟨q, hs, -, -, r, hr, h⟩ | ⟨q, hs, hq, -, h⟩ := { s with turns := rest }.admission_cases e <;>
    rw [h]
  · exact .stays ⟨hu.same, hu.latches, List.prefix_rfl, List.suffix_rfl, rfl, rfl⟩ (.inr rfl) rfl
  · exact .refuses hs hu (by decide)
  · exact .refuses hs (hu.uartWrite _) (by obtain rfl | rfl := hr <;> decide)
  · exact .admits hs hc (hu.uartWrite _) (he q hq)

/-- A record's step: a command goes to admission, the others write their latch (R82). -/
theorem effect_of_record {r : Record} {rest : List Turn} (hs : s.turns = .record r :: rest) (h : step s = .next t) :
    Effect s t := by
  cases hd : decodeRecord r with
  | error e => rw [step_record_of_error hs hd] at h; cases h
  | ok i =>
    rw [step_record_of_ok hs hd] at h
    have henc := decodedRecordEncodesBack s.cfg r i hd
    cases i with
    | writeObject | readObject | writeBody | readBody | responseAck | ackAccept | ackReject | rspHeader
    | rspData => cases henc
    | cmdWriteObject index sub node data =>
      cases h
      exact effect_of_admission ⟨r, rest, hs, .inl ⟨_, _, _, _, hd⟩⟩ fun q hq => .inl ⟨index, sub, node, data, hq⟩
    | cmdReadObject index sub node =>
      simp only [exec, execCmdReadObject] at h
      split at h <;> cases h
      exact effect_of_admission ⟨r, rest, hs, .inr ⟨_, _, _, hd⟩⟩ fun q hq => .inr ⟨index, sub, node, hq⟩
    | cancel tag =>
      cases h
      have hlatch : LatchesKept s ({ s with turns := rest }.latchCancel tag) := ⟨fun h _ => h, fun h _ => h, fun _ _ => rfl⟩
      exact .quiet ⟨rfl, hlatch, List.prefix_rfl, List.suffix_rfl, rfl, rfl⟩ rfl
    | notify rx tx =>
      cases h
      have hlatch : LatchesKept s ({ s with turns := rest }.latchNotify rx tx) := ⟨fun _ _ => rfl, fun h _ => h, fun h _ => h⟩
      exact .quiet ⟨rfl, hlatch, List.prefix_rfl, List.suffix_rfl, rfl, rfl⟩ rfl
    | timerFired g =>
      cases h
      have hlatch : LatchesKept s ({ s with turns := rest }.latchTimer g) := ⟨fun h _ => h, fun _ _ => rfl, fun h _ => h⟩
      exact .quiet ⟨rfl, hlatch, List.prefix_rfl, List.suffix_rfl, rfl, rfl⟩ rfl
    | reservedKind => cases h

/-! #### A unit that leaves (R190, entry 14) -/

/-- A unit the decoder finds at the front of the transmit bytes is one of the five the block sends: it goes to the device. -/
theorem exec_of_decodeUnit {c : Config} {u more : List Byte} {i : Instr} (h : decodeUnit c u = .ok (i, more)) :
    more <:+ u ∧ ∀ s, ∃ bytes, exec i s = .next (s.deliver bytes) := by
  unfold decodeUnit at h
  split at h
  · cases h
  split at h
  · cases h; exact ⟨List.suffix_cons .., fun _ => ⟨_, rfl⟩⟩
  split at h
  · cases h; exact ⟨List.suffix_cons .., fun _ => ⟨_, rfl⟩⟩
  split at h
  · cases h; exact ⟨List.suffix_cons .., fun _ => ⟨_, rfl⟩⟩
  split at h
  · split at h <;> cases h
    exact ⟨⟨[_, _, _, _, _, _, _, _, _, _, _], rfl⟩, fun _ => ⟨_, rfl⟩⟩
  split at h
  · split at h <;> cases h
    exact ⟨⟨[_, _, _, _, _, _, _], rfl⟩, fun _ => ⟨_, rfl⟩⟩
  · cases h

theorem effect_of_unitOut {rest : List Turn} (hs : s.turns = .unitOut :: rest) (h : step s = .next t) : Effect s t := by
  have hu := Underway.turn s rest
  have hf : s.fetch = { s with turns := rest }.sendUnit := by simp [State.fetch, hs, State.takeTurn]
  unfold State.sendUnit at hf
  split at hf
  case h_1 => rw [step_of_fetch_done hf] at h; cases h; exact .idles hu rfl rfl rfl rfl
  case h_2 b more htx =>
    split at hf
    case h_1 i more' hd =>
      obtain ⟨hsuffix, hexec⟩ := exec_of_decodeUnit hd
      obtain ⟨bytes, hexec⟩ := hexec { s with turns := rest, trTx := more' }
      rw [step_of_fetch_run hf, hexec] at h
      cases h
      exact .quiet ⟨rfl, hu.latches, List.prefix_rfl, by simpa [← htx] using hsuffix, rfl, rfl⟩ rfl
    case h_2 =>
      rw [step_of_fetch_done hf] at h
      cases h
      have hsuffix : more <:+ s.trTx := by rw [show s.trTx = b :: more from htx]; exact List.suffix_cons ..
      exact .quiet ⟨rfl, hu.latches, List.prefix_rfl, hsuffix, rfl, rfl⟩ rfl

theorem effect_of_byteOut {rest : List Turn} : Effect s { s with turns := rest }.sendByte := by
  have hu := Underway.turn s rest
  unfold State.sendByte
  split
  case h_1 => exact .idles hu rfl rfl rfl rfl
  case h_2 b more htx =>
    have hsuffix : more <:+ s.trTx := by rw [show s.trTx = b :: more from htx]; exact List.suffix_cons ..
    exact .quiet ⟨rfl, hu.latches, List.prefix_rfl, hsuffix, rfl, rfl⟩ rfl

/-! #### The timer and the cancel latch (R143, R172) -/

theorem effect_of_takeTimer {rest : List Turn} (hs : s.turns = .takeTimer :: rest) :
    Effect s { s with turns := rest }.consumeTimer := by
  obtain ⟨-, h⟩ | ⟨-, harmed, -, h⟩ | ⟨-, -, h⟩ := { s with turns := rest }.consumeTimer_cases <;> rw [h]
  · exact .idles (.turn s rest) rfl rfl rfl rfl
  · exact .ends (.turnTimer hs) (.timeout (.inl harmed))
  · exact .idles (.turnTimer hs) rfl rfl rfl rfl

theorem effect_of_takeCancel {rest : List Turn} (hs : s.turns = .takeCancel :: rest) :
    Effect s { s with turns := rest }.consumeCancel := by
  obtain ⟨-, h⟩ | ⟨-, hbusy, -, h⟩ | ⟨-, -, h⟩ := { s with turns := rest }.consumeCancel_cases <;> rw [h]
  · exact .idles (.turn s rest) rfl rfl rfl rfl
  · exact .ends (Underway.turnCancel hs).uartDiscardTx (.timeout (.inr hbusy))
  · exact .idles (.turnCancel hs) rfl rfl rfl rfl

/-! #### A unit that is read (R136, R138 to R140) -/

theorem State.expects_cases {e : Expect} (he : s.expects = some e) :
    ((s.state = .waitingBeginAck ∨ s.state = .waitingEndAck) ∧ e = .ack) ∨
      (s.state = .waitingResponseLength ∧ e = .header s.cfg.rspHdrLen.toNat) ∨
      (s.state = .waitingResponseData ∧ e = .data s.declLen) := by
  cases hs : s.state <;> simp_all [State.expects]

theorem eq_singleton_of_decodeReply_ack {c : Config} {r : List Byte} {i : Instr} (h : decodeReply c .ack r = .ok i) :
    ∃ b, r = [b] := by
  match r, h with
  | [b], _ => exact ⟨b, rfl⟩

theorem eq_rspHeader_of_decodeReply {c : Config} {n : Nat} {r : List Byte} {i : Instr}
    (h : decodeReply c (.header n) r = .ok i) : ∃ head crc, i = .rspHeader head crc := by
  match r, h with
  | _ :: _, h =>
    simp only [decodeReply] at h
    split at h <;> cases h
    exact ⟨_, _, rfl⟩

theorem eq_rspData_of_decodeReply {c : Config} {n : Nat} {r : List Byte} {i : Instr}
    (h : decodeReply c (.data n) r = .ok i) : ∃ data crc, i = .rspData data crc := by
  simp only [decodeReply] at h
  split at h <;> cases h
  exact ⟨_, _, rfl⟩

/-- A write answered with 0 put every byte at the end of the transmit buffer (R190). -/
theorem State.uartWrite_suffix {bytes : List Byte} (h : (u.uartWrite bytes).1 = 0) :
    bytes <:+ (u.uartWrite bytes).2.trTx := by
  rw [State.uartWrite_fst] at h
  rw [State.uartWrite_inContract (by simp [h, writeInContract])]
  simp [h]

/-- The data held in `INBUF` and a call of the transport do not touch one another. -/
theorem State.answer_loadResponse (data : List Byte) (s : State) :
    (s.loadResponse data).answer = (s.answer.1, s.answer.2.loadResponse data) := by
  simp only [State.answer, State.loadResponse]
  split <;> rfl

theorem State.uartWrite_loadResponse (data bytes : List Byte) (u : State) :
    (u.loadResponse data).uartWrite bytes =
      ((u.uartWrite bytes).1, (u.uartWrite bytes).2.loadResponse data) := by
  simp only [State.uartWrite, State.answer_loadResponse]
  split <;> rfl

/-- `FINISH` clears `INBUF` and `INLEN`, whatever they hold (R133). -/
theorem State.finish_loadResponse (o : TermOutcome) (p data : List Byte) (u : State) :
    (u.loadResponse data).finish o p = u.finish o p := by
  rw [State.finish_eq, State.finish_eq]
  rfl

theorem effect_of_onAck (hu : Underway s u out) (hs : s.state = .waitingBeginAck ∨ s.state = .waitingEndAck) (v : Ack) :
    Effect s (u.onAck v) := by
  have hexp : s.expects ≠ none := by obtain h | h := hs <;> simp [State.expects, h]
  rw [← hu.same.state] at hs
  obtain ⟨-, hst, h⟩ | ⟨-, hst, h⟩ | ⟨-, hst, -, h⟩ | ⟨-, hst, hop, h⟩ | ⟨hb, he, -⟩ := u.onAck_cases v
  · rw [h]
    exact .ends hu (.nack (by rwa [← hu.same.state]))
  · rw [h, hu.same.outbuf, hu.same.outlen]
    obtain ⟨-, h⟩ | ⟨hw, h⟩ := u.submit_cases (s.outbuf.take s.outlen) .sendingData <;> rw [h]
    · exact .ends (hu.uartWrite _) (.unexpected hexp)
    · exact .moves (hu.uartWrite _) (.bodyTaken (hu.same.state ▸ hst) (State.uartWrite_suffix hw))
  · rw [h]
    exact .ends hu (.written (hu.same.state ▸ hst))
  · rw [h]
    exact .moves hu (.readAcked (hu.same.state ▸ hst) (by rwa [← hu.same.opcode, ← hu.same.cfg]))
  · exact absurd hs (not_or.2 ⟨hb, he⟩)

theorem effect_of_rspHeader (hu : Underway s u out) (hs : s.state = .waitingResponseLength) {head : RspHead} {crc : Half}
    (h : exec (.rspHeader head crc) u = .next t) : Effect s t := by
  simp only [exec, execRspHeader, if_pos (hu.same.state.trans hs)] at h
  cases hd : decRspHdr u.cfg head.h0 crc with
  | none =>
    simp only [hd] at h
    cases h
    exact .ends hu (.checksum (.inl hs))
  | some d =>
    simp only [hd] at h
    cases h
    obtain ⟨-, hd, hmax⟩ := decRspHdr_eq_some_iff.1 hd
    exact .moves hu (.headerHeld hs head.h0 d (hu.same.cfg ▸ hd) (hu.same.cfg ▸ hmax))

theorem effect_of_rspData (hu : Underway s u out) (hs : s.state = .waitingResponseData) {data : List Byte} {crc : Half}
    (h : exec (.rspData data crc) u = .next t) : Effect s t := by
  simp only [exec, execRspData, if_pos (hu.same.state.trans hs)] at h
  have hexp : s.expects ≠ none := by simp [State.expects, hs]
  by_cases hlen : data.length = u.declLen
  case neg =>
    rw [if_pos hlen] at h
    cases h
    exact .ends hu (.unexpected hexp)
  rw [if_neg (not_not.2 hlen)] at h
  cases hd : decRspPayload u.cfg u.rspLenM1 data crc with
  | none =>
    simp only [hd] at h
    cases h
    exact .ends hu (.checksum (.inr hs))
  | some d =>
    simp only [hd] at h
    cases h
    obtain ⟨-, rfl⟩ := decRspPayload_eq_some_iff.1 hd
    obtain ⟨-, h⟩ | ⟨-, h⟩ := (u.loadResponse d).submit_cases [encRspAck u.cfg] .sendingResponseAck <;>
      rw [h, State.uartWrite_loadResponse]
    · rw [State.abort_eq, State.finish_loadResponse]
      exact .ends (hu.uartWrite _) (.unexpected hexp)
    · exact .moves (hu.uartWrite _) (.dataHeld hs d (hlen.trans hu.same.declLen))

/-- The unit read is the one the state expects, so it moves the transaction on or ends it. -/
theorem effect_of_reply {e : Expect} {r : List Byte} {i : Instr} (hu : Underway s u out) (he : s.expects = some e)
    (hd : decodeReply s.cfg e r = .ok i) (h : exec i u = .next t) : Effect s t := by
  obtain ⟨hs, rfl⟩ | ⟨hs, rfl⟩ | ⟨hs, rfl⟩ := State.expects_cases he
  · obtain ⟨b, rfl⟩ := eq_singleton_of_decodeReply_ack hd
    rw [exec_decodeReply_ack hu.same.cfg hd] at h
    cases h
    exact effect_of_onAck hu hs _
  · obtain ⟨head, crc, rfl⟩ := eq_rspHeader_of_decodeReply hd
    exact effect_of_rspHeader hu hs h
  · obtain ⟨data, crc, rfl⟩ := eq_rspData_of_decodeReply hd
    exact effect_of_rspData hu hs h

/-! #### The notification latch (R192) -/

theorem State.notifyEvent_cases (s : State) :
    (meets s.ntfRx s.rxThr = true ∧ s.notifyEvent = some (.rxAvailable s.ntfRx)) ∨
      (meets s.ntfTx s.txThr = true ∧ s.notifyEvent = some (.txFree s.ntfTx)) ∨ s.notifyEvent = none := by
  cases hrx : meets s.ntfRx s.rxThr with
  | true => exact .inl ⟨rfl, State.notifyEvent_eq_rxAvailable hrx⟩
  | false =>
    cases htx : meets s.ntfTx s.txThr with
    | true => exact .inr (.inl ⟨rfl, State.notifyEvent_eq_txFree hrx htx⟩)
    | false => exact .inr (.inr (State.notifyEvent_eq_none hrx htx))

theorem effect_of_readUnit {e : Expect} (hu : Underway s u []) (he : s.expects = some e) (hf : s.fetch = u.readUnit e)
    (h : step s = .next t) : Effect s t := by
  obtain hr | ⟨-, i, hd, hr⟩ := u.readUnit_cases e <;> rw [hr] at hf
  · rw [step_of_fetch_done hf] at h
    cases h
    exact .ends (hu.uartRead _) (.unexpected (by simp [he]))
  · rw [step_of_fetch_run hf] at h
    rw [hu.same.cfg] at hd
    exact effect_of_reply (hu.uartRead e.length) he hd h

theorem effect_of_onTxFree (hu : Underway s u []) (hp : s.ntfPend = true) (hm : meets s.ntfTx s.txThr = true)
    (hidle : Effect s u) : Effect s (u.onTxFree s.ntfTx) := by
  obtain h | ⟨-, ⟨hst, h⟩ | ⟨hst, h⟩ | ⟨hst, h⟩⟩ := u.onTxFree_cases s.ntfTx <;> rw [h]
  · exact hidle
  · exact .moves hu (.opcodeSent (hu.same.state ▸ hst) hp hm)
  · exact .moves hu (.bodySent (hu.same.state ▸ hst))
  · rw [hu.same.inbuf, hu.same.inlen]
    exact .ends hu (.response (hu.same.state ▸ hst))

theorem effect_of_takeNotify {rest : List Turn} (hs : s.turns = .takeNotify :: rest) (h : step s = .next t) : Effect s t := by
  have hu := Underway.turnNotify hs
  have hidle : Effect s { s with turns := rest, ntfPend := false } := .idles hu rfl rfl rfl rfl
  by_cases hp : s.ntfPend = true
  case neg =>
    have hf : s.fetch = .done { s with turns := rest } := by simp [State.fetch, hs, State.takeTurn, State.consumeNotify, hp]
    rw [step_of_fetch_done hf] at h
    cases h
    exact .idles (.turn s rest) rfl rfl rfl rfl
  obtain ⟨hm, hn⟩ | ⟨hm, hn⟩ | hn := s.notifyEvent_cases
  · cases he : s.expects with
    | some e => exact effect_of_readUnit hu he (State.fetch_takeNotify_readUnit hs hp hm he) h
    | none =>
      have hf := State.fetch_takeNotify_event hs hp hn
      have he' : { s with turns := rest, ntfPend := false }.expects = none := he
      simp only [State.onEvent, State.onRxAvailable, he', ite_self] at hf
      rw [step_of_fetch_done hf] at h
      cases h
      exact hidle
  · rw [step_of_fetch_done (State.fetch_takeNotify_event hs hp hn)] at h
    cases h
    exact effect_of_onTxFree hu hp hm hidle
  · rw [step_of_fetch_done (State.fetch_takeNotify_no_event hs hp hn)] at h
    cases h
    exact hidle

/-- Everything a step can do. -/
theorem step_effect (h : step s = .next t) : Effect s t := by
  cases hs : s.turns with
  | nil =>
    rw [step_idle hs] at h
    cases h
    exact .quiet ⟨rfl, ⟨fun h _ => h, fun h _ => h, fun h _ => h⟩, List.prefix_rfl, List.suffix_rfl, rfl, rfl⟩ rfl
  | cons turn rest =>
    have hu := Underway.turn s rest
    cases turn with
    | record r => exact effect_of_record hs h
    | takeNotify => exact effect_of_takeNotify hs h
    | takeTimer => rw [step_takeTimer hs] at h; cases h; exact effect_of_takeTimer hs
    | takeCancel => rw [step_takeCancel hs] at h; cases h; exact effect_of_takeCancel hs
    | arrive u =>
      rw [step_of_fetch_done (t := { s with turns := rest }.receive u) (by simp [State.fetch, hs, State.takeTurn])] at h
      cases h
      exact .quiet ⟨rfl, hu.latches, List.prefix_append _ _, List.suffix_rfl, rfl, rfl⟩ rfl
    | unitOut => exact effect_of_unitOut hs h
    | byteOut =>
      rw [step_of_fetch_done (t := { s with turns := rest }.sendByte) (by simp [State.fetch, hs, State.takeTurn])] at h
      cases h
      exact effect_of_byteOut
    | reset => rw [step_reset hs] at h; cases h; exact .resets hs

end

end Sys2Proof.Machine
end

section
/-! The invariants that every step keeps (10_state.md R39, 41_state_machine.md R131, R132, R145), each by the kinds of step of
`Effect`. -/

namespace Sys2Proof.Machine

variable {s t u v : State} {st : TransactionState} {out : List OutEvent} {o : TermOutcome} {p : List Byte}

/-! ### Where a step can move a transaction on -/

theorem Advance.edge (h : Advance s u st v) : edge s.state st = true := by
  cases h with
  | opcodeSent hs | bodyTaken hs | bodySent hs | readAcked hs | headerHeld hs | dataHeld hs => rw [hs]; rfl

theorem Advance.ne_ready (h : Advance s u st v) : s.state ≠ .ready ∧ st ≠ .ready ∧ st ≠ s.state := by
  cases h with
  | opcodeSent hs | bodyTaken hs | bodySent hs | readAcked hs | headerHeld hs | dataHeld hs => rw [hs]; decide

/-- What moving on loads does not touch the rest of the state. -/
theorem Advance.frame (h : Advance s u st v) :
    v = { u with inbuf := v.inbuf, inlen := v.inlen, rspLenM1 := v.rspLenM1, declLen := v.declLen } := by
  cases h with
  | opcodeSent | bodyTaken | bodySent | readAcked | headerHeld | dataHeld => rfl

theorem Advance.opcode (h : Advance s u st v) : v.opcode = u.opcode := (congrArg State.opcode h.frame :)
theorem Advance.tag (h : Advance s u st v) : v.tag = u.tag := (congrArg State.tag h.frame :)
theorem Advance.cfg (h : Advance s u st v) : v.cfg = u.cfg := (congrArg State.cfg h.frame :)
theorem Advance.tmrGen (h : Advance s u st v) : v.tmrGen = u.tmrGen := (congrArg State.tmrGen h.frame :)
theorem Advance.trRx (h : Advance s u st v) : v.trRx = u.trRx := (congrArg State.trRx h.frame :)
theorem Advance.history (h : Advance s u st v) : v.history = u.history := (congrArg State.history h.frame :)

/-- `ENTER(st)` of a non-Ready state is in `st`, with an armed timer. -/
@[simp] theorem State.enter_state (st : TransactionState) (s : State) : (s.enter st).state = st := by
  by_cases h : st = .ready
  · rw [h, State.enter_ready]
  · rw [State.enter_busy h]

@[simp] theorem State.finish_state (o : TermOutcome) (p : List Byte) (s : State) : (s.finish o p).state = .ready := by
  rw [State.finish_eq]

theorem EndsWith.busy (hi : s.Inv) (h : EndsWith s o p) : s.state ≠ .ready := by
  cases h with
  | nack hs => obtain hs | hs := hs <;> simp [hs]
  | written hs => simp [hs]
  | checksum hs => obtain hs | hs := hs <;> simp [hs]
  | timeout hs =>
    obtain harmed | hs := hs
    · intro hr
      exact absurd harmed (by simp [(hi.idle hr).1])
    · exact hs
  | unexpected he =>
    obtain ⟨e, he⟩ := Option.ne_none_iff_exists'.1 he
    exact State.expects_busy he
  | response hs => simp [hs]

/-! ### The registers of the invariant (R39) -/

/-- The invariant speaks of the block's registers, its configuration and the running wait only. -/
theorem SameBlock.inv (h : SameBlock s t) (hi : s.Inv) : t.Inv := by
  have hb : s.bare.Inv := hi
  rw [← h] at hb
  exact hb

/-- In flight `OPCODE` and `OUTBUF` hold a request that decodes (R26, R39). -/
def HoldsRequest (s : State) : Prop :=
  ((s.opcode = s.cfg.opWrite ∧ s.outlen = 11) ∨ (s.opcode = s.cfg.opRead ∧ s.outlen = 7)) ∧
    decReq s.cfg s.opcode (s.outbuf.take s.outlen) ≠ .malformed ∧
    decReq s.cfg s.opcode (s.outbuf.take s.outlen) ≠ .checksumError

theorem State.Inv.holdsRequest (hi : s.Inv) (hs : s.state ≠ .ready) : HoldsRequest s := by
  obtain ⟨-, hbusy, -, -, -, -, -, hbody, -⟩ := hi
  exact ⟨(hbusy hs).2, hbody hs⟩

theorem State.Inv.buffersOk (hi : s.Inv) : s.BuffersOk := by
  obtain ⟨-, -, -, -, -, -, h, -⟩ := hi
  exact h

theorem State.Inv.opRead (hi : s.Inv)
    (hs : s.state = .waitingResponseLength ∨ s.state = .waitingResponseData ∨ s.state = .sendingResponseAck) :
    s.opcode = s.cfg.opRead := hi.2.2.1 hs

/-- Outside `SendingResponseAck` no response is held (R39). -/
theorem State.Inv.inlen_eq_zero (hi : s.Inv) (hs : s.state ≠ .sendingResponseAck) : s.inlen = 0 := by
  obtain ⟨-, -, -, ⟨h, -⟩, -⟩ := hi
  by_contra h0
  exact hs (h h0)

/-- Outside the two states after an accepted header none is held (R28). -/
theorem State.Inv.no_header (hi : s.Inv) (hs : s.state ≠ .waitingResponseData) (hs' : s.state ≠ .sendingResponseAck) :
    s.rspLenM1 = 0 ∧ s.declLen = 0 := by
  obtain ⟨-, -, -, -, -, h, -⟩ := hi
  exact (if_neg (not_or.2 ⟨hs, hs'⟩)).mp h

/-- In those states `DECL_LEN` is that of the length byte and fits the payload (R28). -/
theorem State.Inv.header (hi : s.Inv) (hs : s.state = .waitingResponseData ∨ s.state = .sendingResponseAck) :
    s.declLen = declared s.cfg s.rspLenM1 ∧ 1 + s.declLen ≤ s.cfg.maxPayload := by
  obtain ⟨-, -, -, -, -, h, -⟩ := hi
  exact (if_pos hs).mp h

/-- A declared length is at most 512 bytes: 256 units of at most 2 (R73, R74). -/
theorem declared_le (cfg : Config) (h0 : Byte) : declared cfg h0 ≤ 512 := by
  have hlt := h0.isLt
  unfold declared LengthUnit.bytes
  split <;> omega

/-! ### A state that is entered (R132) -/

/-- The thresholds of a non-Ready state are one of the receive and the transmit side (R39, R131). -/
theorem State.thr_oneDirection (hst : st ≠ .ready) (hcap : s.cfg.txCap ≠ 0) (hhdr : s.cfg.rspHdrLen ≠ 0)
    (hd : st = .waitingResponseData → s.declLen ≤ 512) : (s.thr st).1 ≠ 0 ↔ (s.thr st).2 = 0 := by
  cases st with
  | ready => exact absurd rfl hst
  | sendingOpcode | sendingData | sendingResponseAck => simpa [State.thr] using hcap
  | waitingBeginAck | waitingEndAck => simp [State.thr]
  | waitingResponseLength => simpa [State.thr] using hhdr
  | waitingResponseData =>
    have hne : BitVec.ofNat 16 (s.declLen + 2) ≠ 0 := by
      intro h
      have hnat := congrArg BitVec.toNat h
      have := hd rfl
      simp at hnat
      omega
    simpa [State.thr] using hne

theorem State.inv_enter (hst : st ≠ .ready) (hreq : HoldsRequest s) (hbuf : s.BuffersOk)
    (hread : { s with state := st }.ReadOnly) (hresp : { s with state := st }.ResponseHeld)
    (hhead : { s with state := st }.HeaderHeld) : (s.enter st).Inv := by
  obtain ⟨hop, hbody⟩ := hreq
  have hone : st ≠ .ready → s.cfg.txCap ≠ 0 → s.cfg.rspHdrLen ≠ 0 → ((s.thr st).1 ≠ 0 ↔ (s.thr st).2 = 0) := by
    refine fun h hcap hhdr => State.thr_oneDirection h hcap hhdr fun hdata => ?_
    obtain ⟨hd, -⟩ := (if_pos (.inl hdata)).mp hhead
    exact hd ▸ declared_le ..
  rw [State.enter_busy hst]
  exact ⟨fun h => absurd h hst, fun _ => ⟨rfl, hop⟩, hread, hresp, hone, hhead, hbuf, fun _ => hbody, rfl, fun _ => rfl⟩

/-- The same for a state in which no header and no response is held. -/
theorem State.inv_enter_plain (hst : st ≠ .ready) (hdata : st ≠ .waitingResponseData) (hack : st ≠ .sendingResponseAck)
    (hreq : HoldsRequest s) (hbuf : s.BuffersOk) (hread : st = .waitingResponseLength → s.opcode = s.cfg.opRead)
    (hin : s.inlen = 0) (hhead : s.rspLenM1 = 0 ∧ s.declLen = 0) : (s.enter st).Inv :=
  State.inv_enter hst hreq hbuf (by simpa [State.ReadOnly, hdata, hack] using hread) (by simp [State.ResponseHeld, hin, hack])
    (by simpa [State.HeaderHeld, hdata, hack] using hhead)

/-- A response that fits leaves the buffers with their sizes, zero past their fill counts (R27). -/
theorem State.loadResponse_buffersOk {data : List Byte} (hb : u.BuffersOk) (hin : u.inlen = 0)
    (hlen : data.length = u.declLen) (hmax : u.declLen ≤ u.cfg.maxPayload + 2) : (u.loadResponse data).BuffersOk := by
  obtain ⟨hos, his, hol, -, hoz, hiz⟩ := hb
  refine ⟨hos, (overwrite_length ..).trans his, hol, hmax, hoz, fun b hm => hiz b ?_⟩
  simp only [State.loadResponse, overwrite_fits (show data.length ≤ u.inbuf.length by omega), ← hlen, List.drop_left] at hm
  rw [hin, List.drop_zero]
  exact List.mem_of_mem_drop hm

theorem Advance.inv (hi : s.Inv) (hu : Underway s u out) (hv : Advance s u st v) : (v.enter st).Inv := by
  have hiu := hu.same.inv hi
  obtain ⟨hbusy, hst, -⟩ := hv.ne_ready
  have hreq := hiu.holdsRequest (hu.same.state ▸ hbusy)
  have hus := hu.same.state
  cases hv with
  | opcodeSent hs | bodyTaken hs | bodySent hs =>
    have hin := hiu.inlen_eq_zero (by simp [hus, hs])
    have hhead := hiu.no_header (by simp [hus, hs]) (by simp [hus, hs])
    exact State.inv_enter_plain hst (by decide) (by decide) hreq hiu.buffersOk nofun hin hhead
  | readAcked hs hop =>
    have hin := hiu.inlen_eq_zero (by simp [hus, hs])
    have hhead := hiu.no_header (by simp [hus, hs]) (by simp [hus, hs])
    rw [← hu.same.opcode, ← hu.same.cfg] at hop
    have hread : u.opcode = u.cfg.opRead := (hreq.1.resolve_left fun h => hop h.1).1
    exact State.inv_enter_plain hst (by decide) (by decide) hreq hiu.buffersOk (fun _ => hread) hin hhead
  | headerHeld hs h0 d hd hmax =>
    have hin := hiu.inlen_eq_zero (by simp [hus, hs])
    have hread := hiu.opRead (.inl (hus.trans hs))
    rw [← hu.same.cfg] at hd hmax
    exact State.inv_enter hst hreq hiu.buffersOk (fun _ => hread) (by simp [State.ResponseHeld, hin])
      (by simpa [State.HeaderHeld] using ⟨hd, hmax⟩)
  | dataHeld hs data hlen =>
    have hin := hiu.inlen_eq_zero (by simp [hus, hs])
    have hread := hiu.opRead (.inr (.inl (hus.trans hs)))
    have hhead := hiu.header (.inl (hus.trans hs))
    have hbuf := State.loadResponse_buffersOk hiu.buffersOk hin (hlen.trans hu.same.declLen.symm) (by omega)
    exact State.inv_enter hst hreq hbuf (fun _ => hread) (by simp [State.ResponseHeld, State.loadResponse])
      (by simpa [State.HeaderHeld, State.loadResponse] using hhead)

/-! ### A request that is admitted (R170, R171) -/

theorem Encoded.decodes {cfg : Config} {q : Request} (hq : Encoded cfg q) :
    ((q.opcode = cfg.opWrite ∧ q.body.length = 11) ∨ (q.opcode = cfg.opRead ∧ q.body.length = 7)) ∧
      decReq cfg q.opcode q.body ≠ .malformed ∧ decReq cfg q.opcode q.body ≠ .checksumError ∧
      q.body.length ≤ cfg.maxPayload + 2 := by
  obtain ⟨index, sub, node, data, h⟩ | ⟨index, sub, node, h⟩ := hq
  · have hdec := requestRoundTrip.1 cfg index sub node data q h
    obtain ⟨rfl, hmax⟩ := eq_framed_of_frame_eq_some h
    exact ⟨.inl ⟨rfl, rfl⟩, by simp [hdec], by simp [hdec], Nat.add_le_add_right hmax 2⟩
  · have hdec := requestRoundTrip.2 cfg index sub node q h
    obtain ⟨rfl, hmax⟩ := eq_framed_of_frame_eq_some h
    exact ⟨.inr ⟨rfl, rfl⟩, by simp [hdec], by simp [hdec], Nat.add_le_add_right hmax 2⟩

theorem inv_admitted {q : Request} (hi : s.Inv) (hs : s.state = .ready) (hu : Underway s u out) (hq : Encoded s.cfg q) :
    ((u.loadRequest q).enter .sendingOpcode).Inv := by
  have hiu := hu.same.inv hi
  rw [← hu.same.cfg] at hq
  rw [← hu.same.state] at hs
  obtain ⟨hop, hm, hc, hmax⟩ := hq.decodes
  obtain ⟨hos, his, -, hil, hoz, hiz⟩ := hiu.buffersOk
  have hover : overwrite u.outbuf q.body = q.body ++ u.outbuf.drop q.body.length := overwrite_fits (hos ▸ hmax)
  have htake : (u.loadRequest q).outbuf.take (u.loadRequest q).outlen = q.body := by simp [State.loadRequest, hover]
  have hzero : u.outlen = 0 := (hiu.1 hs).2.1
  have hbuf : (u.loadRequest q).BuffersOk := by
    refine ⟨(overwrite_length ..).trans hos, his, hmax, hil, fun b hb => hoz b ?_, hiz⟩
    simp only [State.loadRequest, hover, List.drop_left] at hb
    rw [hzero, List.drop_zero]
    exact List.mem_of_mem_drop hb
  have hin := hiu.inlen_eq_zero (by simp [hs])
  have hhead := hiu.no_header (by simp [hs]) (by simp [hs])
  refine State.inv_enter_plain (by decide) (by decide) (by decide) ⟨hop, ?_⟩ hbuf nofun hin hhead
  rw [htake]
  exact ⟨hm, hc⟩

/-! ### An idle block (R133, R240) -/

/-- With the registers of an idle block and cleared buffers the invariant holds. -/
theorem State.inv_of_idle (hs : t.state = .ready) (hidle : t.ReadyIdle) (hob : t.outbuf = cleared t.cfg)
    (hib : t.inbuf = cleared t.cfg) : t.Inv := by
  obtain ⟨-, hol, hil, hl, hd, hrx, htx, harmed⟩ := hidle hs
  refine ⟨hidle, fun h => absurd hs h, by simp [State.ReadOnly, hs], by simp [State.ResponseHeld, hs, hil],
    fun h => absurd hs h, by simp [State.HeaderHeld, hs, hl, hd], ?_, fun h => absurd hs h,
    by simp [State.ThresholdsSet, hs, State.thr, hrx, htx], by simp [State.TimerRuns, harmed]⟩
  simp [State.BuffersOk, hob, hib, hol, hil, cleared]

theorem State.inv_finish (o : TermOutcome) (p : List Byte) (u : State) : (u.finish o p).Inv := by
  rw [State.finish_eq]
  exact State.inv_of_idle rfl (fun _ => ⟨rfl, rfl, rfl, rfl, rfl, rfl, rfl, rfl⟩) rfl rfl

theorem State.inv_resetWith (c : Config) : (State.resetWith c).Inv :=
  State.inv_of_idle rfl (fun _ => ⟨rfl, rfl, rfl, rfl, rfl, rfl, rfl, rfl⟩) rfl rfl

theorem State.inv_doReset (s : State) : s.doReset.Inv :=
  State.inv_of_idle rfl (fun _ => ⟨rfl, rfl, rfl, rfl, rfl, rfl, rfl, rfl⟩) rfl rfl

/-- Settles O15: a step that stays or refuses leaves the registers of the invariant, the others set them anew. -/
theorem stepKeepsInvariant : Obligations.StepKeepsInvariant := by
  intro s t hi h
  cases step_effect h with
  | stays hq => exact hq.same.inv hi
  | refuses _ hu => exact hu.same.inv hi
  | admits hs _ hu hq => exact inv_admitted hi hs hu hq
  | moves hu hv => exact hv.inv hi hu
  | ends => exact State.inv_finish ..
  | resets => exact State.inv_doReset _

/-! ### The transport's thresholds (R197) -/

/-- Settles O16: a step that stays leaves both pairs of thresholds, and one that enters a state sets both pairs alike. -/
theorem transportStaysProgrammed : Obligations.TransportStaysProgrammed := by
  intro s t hp h hs
  cases step_effect h with
  | stays hq =>
    rw [hq.trRxThr, hq.trTxThr, hq.same.rxThr, hq.same.txThr]
    exact hp (hq.same.state ▸ hs)
  | refuses hr hu => exact absurd (hu.same.state.trans hr) hs
  | admits => rw [State.enter_busy (by decide)]; exact ⟨rfl, rfl⟩
  | moves _ hv => rw [State.enter_busy hv.ne_ready.2.1]; exact ⟨rfl, rfl⟩
  | ends => exact absurd (State.finish_state ..) hs
  | resets => exact absurd rfl hs

/-! ### The ledger (R145) -/

@[simp] theorem admittedTags_append (h out : List OutEvent) :
    admittedTags (h ++ out) = admittedTags h ++ admittedTags out :=
  List.filterMap_append ..

/-- The calls inside a step are no record. -/
theorem Underway.tags (hu : Underway s u out) :
    admittedTags u.history = admittedTags s.history ∧ completedTags u.history = completedTags s.history := by
  have hadm : admittedTags out = [] :=
    List.filterMap_eq_nil_iff.2 fun e he => by have := hu.calls e he; cases e <;> simp_all [OutEvent.isCall]
  have hcpl : completedTags out = [] :=
    List.filterMap_eq_nil_iff.2 fun e he => by have := hu.calls e he; cases e <;> simp_all [OutEvent.isCall]
  simp [hu.history, hadm, hcpl]

theorem State.enter_tags (hst : st ≠ .ready) (v : State) :
    admittedTags (v.enter st).history = admittedTags v.history ∧
      completedTags (v.enter st).history = completedTags v.history := by
  rw [State.enter_busy hst]
  cases h : v.tmrArmed <;> simp [State.disarmOut, h, admittedTags, completedTags]

theorem State.finish_tags (o : TermOutcome) (p : List Byte) (u : State) :
    admittedTags (u.finish o p).history = admittedTags u.history ∧
      completedTags (u.finish o p).history = completedTags u.history ++ [u.tag] := by
  rw [State.finish_eq]
  cases h : u.tmrArmed <;> simp [State.disarmOut, h, admittedTags, completedTags]

theorem tags_of_refusal {res : AdmResult} (h : res ≠ .admitted) (tag : Byte) :
    admittedTags [.admission res tag] = [] ∧ completedTags [.admission res tag] = [] := by
  cases res with
  | admitted => exact absurd rfl h
  | serialBufferFull | driverBusy | unexpectedError => exact ⟨rfl, rfl⟩

/-- Settles O17: admission adds its tag on the left, an end adds it on the right, the other steps add none. -/
theorem outcomeDeliveredExactlyOnce : Obligations.OutcomeDeliveredExactlyOnce := by
  intro s t hi hl hr h
  cases step_effect h with
  | @stays t out hq ho hh =>
    have htags : admittedTags out = [] ∧ completedTags out = [] := by obtain rfl | rfl := ho <;> exact ⟨rfl, rfl⟩
    simpa [State.Ledger, hh, htags, hq.same.state, hq.same.tag] using hl
  | @refuses u _ res hs hu hres =>
    obtain ⟨hadm, hcpl⟩ := hu.tags
    simpa [State.Ledger, tags_of_refusal hres, hadm, hcpl, hu.same.state, hs] using hl
  | @admits u _ q hs _ hu _ =>
    obtain ⟨hadm, hcpl⟩ := hu.tags
    obtain ⟨hadm', hcpl'⟩ := State.enter_tags (st := .sendingOpcode) (by decide) (u.loadRequest q)
    have htag : ((u.loadRequest q).enter .sendingOpcode).tag = u.nextTag := by rw [State.enter_busy (by decide)]; rfl
    have hload : (u.loadRequest q).history = u.history := rfl
    have htags : admittedTags [.admission .admitted u.nextTag] = [u.nextTag] ∧
      completedTags [.admission .admitted u.nextTag] = [] := ⟨rfl, rfl⟩
    simpa [State.Ledger, hadm', hcpl', hload, hadm, hcpl, htag, htags, hs] using hl
  | @moves u v _ st hu hv =>
    obtain ⟨hadm, hcpl⟩ := hu.tags
    obtain ⟨hbusy, hst, -⟩ := hv.ne_ready
    obtain ⟨hadm', hcpl'⟩ := State.enter_tags hst v
    have htag : (v.enter st).tag = s.tag := by
      rw [State.enter_busy hst]
      exact hv.tag.trans hu.same.tag
    simpa [State.Ledger, hadm', hcpl', hv.history, hadm, hcpl, htag, hst, hbusy] using hl
  | @ends u _ o p hu ho =>
    obtain ⟨hadm, hcpl⟩ := hu.tags
    obtain ⟨hadm', hcpl'⟩ := State.finish_tags o p u
    simpa [State.Ledger, hadm', hcpl', hadm, hcpl, hu.same.tag, ho.busy hi] using hl
  | resets hs => exact absurd (by rw [hs]; rfl) hr

/-- Settles O14: reset leaves an idle block with cleared buffers and an empty ledger. -/
theorem resetMeetsInvariant : Obligations.ResetMeetsInvariant :=
  fun c => ⟨State.inv_resetWith c, fun h => absurd rfl h, rfl⟩

end Sys2Proof.Machine
end

section
/-! What every step does to `STATE`, the configuration, the timer, the latches and the receive buffer, and which records it
puts out (41_state_machine.md R144, R145, 43_event_bridge.md R195, 70_reset_and_hazards.md R247), by the kinds of step of
`Effect`. -/

namespace Sys2Proof.Machine

variable {s t u v : State} {st : TransactionState} {out : List OutEvent} {o : TermOutcome} {p : List Byte}

/-! ### The state machine's edges (R144, R145) -/

theorem edge_ready (st : TransactionState) : edge st .ready = true := by cases st <;> rfl

/-- Settles O18: a step that stays, refuses or resets in `Ready` keeps `STATE`; the others follow an edge. -/
theorem stateFollowsMatrix : Obligations.StateFollowsMatrix := by
  intro s t h
  cases step_effect h with
  | stays hq => exact .inl hq.same.state
  | refuses _ hu => exact .inl hu.same.state
  | admits hs => right; rw [hs, State.emit_state, State.enter_state]; rfl
  | moves _ hv => right; rw [State.enter_state]; exact hv.edge
  | ends => right; rw [State.finish_state]; exact edge_ready _
  | resets => exact .inr (edge_ready _)

/-- Settles O19: of the steps that start in `Ready` only an admission ends elsewhere. -/
theorem onlyAdmissionLeavesReady : Obligations.OnlyAdmissionLeavesReady := by
  intro s t hs h ht
  cases step_effect h with
  | stays hq => exact absurd (hq.same.state.trans hs) ht
  | refuses _ hu => exact absurd (hu.same.state.trans hs) ht
  | admits _ hc hu =>
    rw [State.enter_busy (by decide)]
    refine ⟨rfl, hu.same.nextTag, congrArg (· + 1) hu.same.nextTag, ?_, hc⟩
    rw [State.emit_history, List.getLast?_concat, hu.same.nextTag]
  | moves _ hv => exact absurd hs hv.ne_ready.1
  | ends => exact absurd (State.finish_state ..) ht
  | resets => exact absurd rfl ht

/-! ### What no step changes (R60) -/

/-- Settles O21: no operation of a step writes the configuration or the true capacity. -/
theorem configurationIsFixed : Obligations.ConfigurationIsFixed := by
  intro s t h
  cases step_effect h with
  | stays hq => exact ⟨hq.same.cfg, hq.same.trCap⟩
  | refuses _ hu => exact ⟨hu.same.cfg, hu.same.trCap⟩
  | admits _ _ hu => rw [State.enter_busy (by decide)]; exact ⟨hu.same.cfg, hu.same.trCap⟩
  | moves hu hv =>
    rw [State.enter_busy hv.ne_ready.2.1, hv.frame]
    exact ⟨hu.same.cfg, hu.same.trCap⟩
  | ends hu => rw [State.finish_eq]; exact ⟨hu.same.cfg, hu.same.trCap⟩
  | resets => exact ⟨rfl, rfl⟩

/-! ### The timer and the thresholds (R131, R132) -/

/-- In a state that is entered the timer runs a new generation for it, and its thresholds are set. -/
theorem State.enter_timer (hst : st ≠ .ready) (v : State) :
    let t := v.enter st
    t.tmrArmed = true ∧ t.tmrGen = v.tmrGen + 1 ∧ (t.rxThr, t.txThr) = t.thr t.state ∧
      t.wait = some ⟨v.tmrGen + 1, t.state, v.cfg.tWait.of t.state⟩ := by
  rw [State.enter_busy hst]
  exact ⟨rfl, rfl, rfl, rfl⟩

/-- Settles O22: a step that stays or refuses leaves the timer, one that enters a state arms it, one that ends disarms it. -/
theorem timerFollowsState : Obligations.TimerFollowsState := by
  intro s t hi hr h
  cases step_effect h with
  | stays hq =>
    have hk := hq.same
    exact ⟨fun _ => ⟨hk.tmrArmed, hk.tmrGen, hk.rxThr, hk.txThr, hk.wait⟩, fun hn => absurd hk.state hn,
      fun hn => absurd hk.state hn⟩
  | refuses _ hu =>
    have hk := hu.same
    exact ⟨fun _ => ⟨hk.tmrArmed, hk.tmrGen, hk.rxThr, hk.txThr, hk.wait⟩, fun hn => absurd hk.state hn,
      fun hn => absurd hk.state hn⟩
  | @admits u _ q hs _ hu =>
    have hbusy : TransactionState.sendingOpcode ≠ .ready := by decide
    have htimer := State.enter_timer hbusy (u.loadRequest q)
    simp only [State.emit_state, State.enter_state, hs] at htimer ⊢
    rw [show (u.loadRequest q).tmrGen = s.tmrGen from hu.same.tmrGen, show (u.loadRequest q).cfg = s.cfg from hu.same.cfg]
      at htimer
    exact ⟨fun h => absurd h hbusy, fun _ h => absurd h hbusy, fun _ _ => htimer⟩
  | @moves u v _ st hu hv =>
    obtain ⟨-, hbusy, hne⟩ := hv.ne_ready
    have htimer := State.enter_timer hbusy v
    simp only [State.enter_state] at htimer ⊢
    rw [hv.tmrGen, hu.same.tmrGen, hv.cfg, hu.same.cfg] at htimer
    exact ⟨fun h => absurd h hne, fun _ h => absurd h hbusy, fun _ _ => htimer⟩
  | @ends u _ _ _ hu ho =>
    have hbusy := ho.busy hi
    have harmed : u.tmrArmed = true := hu.same.tmrArmed.trans (hi.armed hbusy)
    rw [State.finish_armed harmed]
    exact ⟨fun h => absurd h.symm hbusy, fun _ _ => ⟨rfl, hu.same.tmrGen, rfl, rfl, rfl⟩, fun _ h => absurd rfl h⟩
  | resets hs => exact absurd (by rw [hs]; rfl) hr

/-! ### The completion records (R85, R174) -/

theorem Underway.complete_not_mem (hu : Underway s u out) (tag : Byte) : .complete tag o p ∉ out :=
  fun h => by simpa [OutEvent.isCall] using hu.calls _ h

theorem State.complete_not_mem_disarmOut (s : State) (tag : Byte) : .complete tag o p ∉ s.disarmOut := by
  unfold State.disarmOut
  split <;> simp

/-- The outputs of a step that enters a state: its calls, then those of `ENTER` (R132). -/
theorem Underway.enter_history (hu : Underway s u out) (hv : v.history = u.history) (hst : st ≠ .ready) :
    (v.enter st).history = s.history ++ (out ++ (v.disarmOut ++
      [.uartSetThreshold (v.thr st).1 (v.thr st).2, .timerArm (v.tmrGen + 1) st])) := by
  simp [State.enter_busy hst, hv, hu.history]

/-- The outputs of a history's end that hold a completion record: only an end of the transaction has them. -/
theorem Effect.of_complete_mem {tag : Byte} (h : Effect s t) (hh : t.history = s.history ++ out)
    (hm : .complete tag o p ∈ out) : EndsWith s o p ∧ tag = s.tag ∧ t.state = .ready := by
  cases h with
  | stays hq ho hh' =>
    rw [hh'] at hh
    cases List.append_cancel_left hh
    obtain rfl | rfl := ho <;> simp at hm
  | refuses _ hu =>
    rw [State.emit_history, hu.history, List.append_assoc] at hh
    cases List.append_cancel_left hh
    simp [hu.complete_not_mem] at hm
  | @admits u _ q _ _ hu =>
    rw [State.emit_history, hu.enter_history (v := u.loadRequest q) rfl (by decide), List.append_assoc] at hh
    cases List.append_cancel_left hh
    simp [hu.complete_not_mem, State.complete_not_mem_disarmOut] at hm
  | moves hu hv =>
    rw [hu.enter_history hv.history hv.ne_ready.2.1] at hh
    cases List.append_cancel_left hh
    simp [hu.complete_not_mem, State.complete_not_mem_disarmOut] at hm
  | ends hu ho =>
    simp only [State.finish_eq, hu.history, List.append_assoc] at hh
    cases List.append_cancel_left hh
    obtain ⟨rfl, rfl, rfl⟩ : tag = _ ∧ o = _ ∧ p = _ := by
      simpa [hu.complete_not_mem, State.complete_not_mem_disarmOut] using hm
    exact ⟨ho, hu.same.tag, State.finish_state ..⟩
  | resets =>
    cases List.append_cancel_left (show s.history ++ [.uartSetThreshold 0 0] = s.history ++ out from hh)
    simp at hm

/-- What the payload and the code of an end can be (R139 to R141). -/
theorem EndsWith.payload (hi : s.Inv) (h : EndsWith s o p) :
    (p ≠ [] → o = .success ∧ s.opcode = s.cfg.opRead ∧ p.length + 1 ≤ s.cfg.maxPayload) ∧
      (o = .checksumError → s.opcode = s.cfg.opRead) := by
  cases h with
  | nack | written | timeout | unexpected => exact ⟨fun h => absurd rfl h, nofun⟩
  | checksum hs => exact ⟨fun h => absurd rfl h, fun _ => hi.opRead (hs.imp_right .inl)⟩
  | response hs =>
    have hmax := (hi.header (.inr hs)).2
    have hlen := List.length_take_le s.inlen s.inbuf
    refine ⟨fun _ => ⟨rfl, hi.opRead (.inr (.inr hs)), ?_⟩, nofun⟩
    obtain ⟨-, -, -, ⟨-, hin⟩, -⟩ := hi
    rw [hin hs] at hlen ⊢
    omega

/-- Settles O23: a record comes with an end, and its code is that of its outcome. -/
theorem completionRecords : Obligations.CompletionRecords := by
  intro s t out tag o p hi h hh hm
  obtain ⟨hend, rfl, ht⟩ := (step_effect h).of_complete_mem hh hm
  obtain ⟨hpayload, hread⟩ := hend.payload hi
  refine ⟨hend.busy hi, ht, rfl, hpayload, hread, o.code, rfl, ?_, ?_, ?_, ?_, ?_⟩ <;>
    · rintro rfl; rfl

/-! ### The receive buffer (R247) -/

/-- Settles O25: a step that stays adds at the end, and the calls of the others leave the buffer unless they read or their
answer is out of the contract. -/
theorem receiveBufferIsNeverFlushed : Obligations.ReceiveBufferIsNeverFlushed := by
  intro s t out h hh hread hwrite
  have hkeeps : KeepsReceived out := ⟨hread, hwrite⟩
  suffices hp : s.trRx <+: t.trRx from hp.imp fun _ => Eq.symm
  cases step_effect h with
  | stays hq => exact hq.received
  | refuses _ hu =>
    rw [State.emit_history, hu.history, List.append_assoc] at hh
    cases List.append_cancel_left hh
    rw [State.emit_trRx, hu.received hkeeps.left]
  | @admits u _ q _ _ hu =>
    rw [State.emit_history, hu.enter_history (v := u.loadRequest q) rfl (by decide), List.append_assoc] at hh
    cases List.append_cancel_left hh
    rw [State.enter_busy (by decide), State.emit_trRx]
    exact (hu.received hkeeps.left.left) ▸ List.prefix_rfl
  | moves hu hv =>
    rw [hu.enter_history hv.history hv.ne_ready.2.1] at hh
    cases List.append_cancel_left hh
    rw [State.enter_busy hv.ne_ready.2.1]
    exact (hv.trRx.trans (hu.received hkeeps.left)) ▸ List.prefix_rfl
  | ends hu =>
    simp only [State.finish_eq, hu.history, List.append_assoc] at hh
    cases List.append_cancel_left hh
    rw [State.finish_eq]
    exact (hu.received hkeeps.left) ▸ List.prefix_rfl
  | resets => exact List.prefix_rfl

/-! ### The latches (R195) -/

/-- Settles O26: a step that stays writes its latch or none, and no other operation but a reset touches a latch. -/
theorem latchWaitsForItsTurn : Obligations.LatchWaitsForItsTurn := by
  intro s t h hr
  cases step_effect h with
  | stays hq => exact hq.latches
  | refuses _ hu => exact hu.latches
  | admits _ _ hu => rw [State.enter_busy (by decide)]; exact hu.latches
  | moves hu hv => rw [State.enter_busy hv.ne_ready.2.1, hv.frame]; exact hu.latches
  | ends hu => rw [State.finish_eq]; exact hu.latches
  | resets hs => exact absurd (by rw [hs]; rfl) hr

end Sys2Proof.Machine
end

section
/-! Proofs that no rule of the block reads the history (10_state.md R35): every operation does the same after a longer past,
and puts its outputs at the end of it. -/

namespace Sys2Proof.Machine

/-- `s` with the outputs `past` before those it has. -/
def State.withPast (past : List OutEvent) (s : State) : State := { s with history := past ++ s.history }

/-- What a fetch ends in, with a longer past. -/
def Fetched.withPast (past : List OutEvent) : Fetched → Fetched
  | .done s => .done (s.withPast past)
  | .run i s => .run i (s.withPast past)
  | .reject r => .reject r

/-- What a step ends in, with a longer past. -/
def outcomeWithPast (past : List OutEvent) : Host.Outcome State Fault Refusal → Host.Outcome State Fault Refusal
  | .next s => .next (s.withPast past)
  | .fault r => .fault r
  | .refused r => .refused r

section
variable (past : List OutEvent) (s : State)

/-- Two states that differ in their histories only, the one's being longer by `past`. -/
theorem State.eq_withPast {past : List OutEvent} {s t : State} (hh : t.history = past ++ s.history)
    (hrest : { t with history := [] } = { s with history := [] }) : t = s.withPast past := by
  calc t = { t with history := [] }.withPast (past ++ s.history) := by simp [State.withPast, ← hh]
    _ = { s with history := [] }.withPast (past ++ s.history) := by rw [hrest]
    _ = s.withPast past := by simp [State.withPast]

/-! ### The calls (R12) -/

@[simp] theorem State.emit_withPast (e : OutEvent) : (s.withPast past).emit e = (s.emit e).withPast past := by
  simp [State.emit, State.withPast]

@[simp] theorem State.answer_withPast : (s.withPast past).answer = (s.answer.1, s.answer.2.withPast past) := by
  simp only [State.answer, State.withPast]
  split <;> rfl

@[simp] theorem State.uartWrite_withPast (bytes : List Byte) :
    (s.withPast past).uartWrite bytes = ((s.uartWrite bytes).1, (s.uartWrite bytes).2.withPast past) := by
  simp only [State.uartWrite, State.answer_withPast, State.emit_withPast]
  split <;> rfl

@[simp] theorem State.uartRead_withPast (n : Nat) :
    (s.withPast past).uartRead n =
      ((s.uartRead n).1, (s.uartRead n).2.1, (s.uartRead n).2.2.withPast past) := by
  have hbytes (cr : Word) (t : State) : (t.withPast past).readBytes n cr = t.readBytes n cr := rfl
  have hstored (t : State) : (t.withPast past).trRx = t.trRx := rfl
  simp only [State.uartRead, State.answer_withPast, State.emit_withPast, hbytes, hstored]
  split <;> rfl

@[simp] theorem State.uartDiscardTx_withPast : (s.withPast past).uartDiscardTx = s.uartDiscardTx.withPast past := by
  simp only [State.uartDiscardTx, State.emit_withPast]
  rfl

/-! ### The procedures (R131 to R134) -/

@[simp] theorem State.enter_withPast (st : TransactionState) :
    (s.withPast past).enter st = (s.enter st).withPast past := by
  have hout : (s.withPast past).disarmOut = s.disarmOut := rfl
  have hthr : (s.withPast past).thr st = s.thr st := rfl
  have hhist : (s.withPast past).history = past ++ s.history := rfl
  by_cases hst : st = .ready
  · rw [hst, State.enter_ready, State.enter_ready]
    exact State.eq_withPast (by simp [hout, hhist]) rfl
  · rw [State.enter_busy hst, State.enter_busy hst]
    exact State.eq_withPast (by simp [hout, hhist, hthr]; rfl) rfl

@[simp] theorem State.finish_withPast (o : TermOutcome) (p : List Byte) :
    (s.withPast past).finish o p = (s.finish o p).withPast past := by
  have hout : (s.withPast past).disarmOut = s.disarmOut := rfl
  have hhist : (s.withPast past).history = past ++ s.history := rfl
  rw [State.finish_eq, State.finish_eq]
  exact State.eq_withPast (by simp [hout, hhist]; rfl) rfl

@[simp] theorem State.abort_withPast (c : FailCode) : (s.withPast past).abort c = (s.abort c).withPast past :=
  State.finish_withPast ..

@[simp] theorem State.submit_withPast (bytes : List Byte) (st : TransactionState) :
    (s.withPast past).submit bytes st = (s.submit bytes st).withPast past := by
  simp only [State.submit, State.uartWrite_withPast, State.abort_withPast, State.enter_withPast]
  split <;> rfl

@[simp] theorem State.admission_withPast (e : Option Request) :
    (s.withPast past).admission e = (s.admission e).withPast past := by
  have hload (q : Request) (t : State) : (t.withPast past).loadRequest q = (t.loadRequest q).withPast past := rfl
  simp only [State.admission, State.uartWrite_withPast, State.emit_withPast, hload, State.enter_withPast]
  show (if s.state ≠ .ready then _ else _) = _
  split
  · rfl
  split
  · rfl
  split
  · rfl
  split <;> rfl

/-! ### The instructions -/

theorem State.onAck_withPast (v : Ack) : (s.withPast past).onAck v = (s.onAck v).withPast past := by
  have hop : ((s.withPast past).opcode = (s.withPast past).cfg.opWrite) = (s.opcode = s.cfg.opWrite) := rfl
  have hbody : (s.withPast past).submit ((s.withPast past).outbuf.take (s.withPast past).outlen) .sendingData =
      (s.submit (s.outbuf.take s.outlen) .sendingData).withPast past := State.submit_withPast ..
  have hs : (s.withPast past).state = s.state := rfl
  simp only [State.onAck, hop, hbody, State.abort_withPast, State.finish_withPast, State.enter_withPast, hs]
  split
  case h_4 => split <;> rfl
  all_goals rfl

theorem execRspHeader_withPast (head : RspHead) (crc : Half) :
    execRspHeader head crc (s.withPast past) = outcomeWithPast past (execRspHeader head crc s) := by
  have hs : (s.withPast past).state = s.state := rfl
  have hcfg : (s.withPast past).cfg = s.cfg := rfl
  simp only [execRspHeader, hs, hcfg, State.abort_withPast]
  split
  · split
    · rfl
    · exact congrArg Host.Outcome.next (State.enter_withPast past { s with rspLenM1 := head.h0, declLen := _ } _)
  · rfl

theorem execRspData_withPast (data : List Byte) (crc : Half) :
    execRspData data crc (s.withPast past) = outcomeWithPast past (execRspData data crc s) := by
  have hs : (s.withPast past).state = s.state := rfl
  have hlen : (s.withPast past).declLen = s.declLen := rfl
  have hl : (s.withPast past).rspLenM1 = s.rspLenM1 := rfl
  have hcfg : (s.withPast past).cfg = s.cfg := rfl
  have hload (d : List Byte) : (s.withPast past).loadResponse d = (s.loadResponse d).withPast past := rfl
  simp only [execRspData, hs, hlen, hl, hcfg, hload, State.abort_withPast, State.submit_withPast]
  split
  · split
    · rfl
    · split <;> rfl
  · rfl

theorem exec_withPast (i : Instr) : exec i (s.withPast past) = outcomeWithPast past (exec i s) := by
  cases i with
  | writeObject | readObject | writeBody | readBody | responseAck | cancel | notify | timerFired | reservedKind => rfl
  | cmdWriteObject => exact congrArg Host.Outcome.next (State.admission_withPast ..)
  | cmdReadObject =>
    have hpath : (s.withPast past).cfg.readPath = s.cfg.readPath := rfl
    simp only [exec, execCmdReadObject, hpath]
    cases s.cfg.readPath with
    | refused => rfl
    | enabled => exact congrArg Host.Outcome.next (State.admission_withPast ..)
  | ackAccept => exact congrArg Host.Outcome.next (State.onAck_withPast ..)
  | ackReject => exact congrArg Host.Outcome.next (State.onAck_withPast ..)
  | rspHeader head crc => exact execRspHeader_withPast ..
  | rspData data crc => exact execRspData_withPast ..

/-! ### The fetch -/

theorem State.readUnit_withPast (e : Expect) : (s.withPast past).readUnit e = (s.readUnit e).withPast past := by
  have hcfg : (s.withPast past).cfg = s.cfg := rfl
  simp only [State.readUnit, State.uartRead_withPast, State.abort_withPast, hcfg]
  split
  · rfl
  · split <;> rfl

theorem State.onTxFree_withPast (n : Word) : (s.withPast past).onTxFree n = (s.onTxFree n).withPast past := by
  have hm : meets n (s.withPast past).txThr = meets n s.txThr := rfl
  have hs : (s.withPast past).state = s.state := rfl
  have hin : (s.withPast past).inbuf.take (s.withPast past).inlen = s.inbuf.take s.inlen := rfl
  simp only [State.onTxFree, hm, hs, hin, State.enter_withPast, State.finish_withPast]
  split
  · split <;> rfl
  · rfl

theorem State.onEvent_withPast (e : Event) : (s.withPast past).onEvent e = (s.onEvent e).withPast past := by
  cases e with
  | txFree n => exact congrArg Fetched.done (State.onTxFree_withPast ..)
  | rxAvailable n =>
    have hm : meets n (s.withPast past).rxThr = meets n s.rxThr := rfl
    have he : (s.withPast past).expects = s.expects := rfl
    simp only [State.onEvent, State.onRxAvailable, hm, he, State.readUnit_withPast]
    split
    · split <;> rfl
    · rfl

theorem State.consumeNotify_withPast : (s.withPast past).consumeNotify = s.consumeNotify.withPast past := by
  have hp : (s.withPast past).ntfPend = s.ntfPend := rfl
  have ht : { s.withPast past with ntfPend := false } = { s with ntfPend := false }.withPast past := rfl
  have hn : ({ s with ntfPend := false }.withPast past).notifyEvent = { s with ntfPend := false }.notifyEvent := rfl
  simp only [State.consumeNotify, hp, ht, hn, State.onEvent_withPast]
  split
  · split <;> rfl
  · rfl

theorem State.consumeTimer_withPast : (s.withPast past).consumeTimer = s.consumeTimer.withPast past := by
  have ht : { s.withPast past with tmfPend := false } = { s with tmfPend := false }.withPast past := rfl
  simp only [State.consumeTimer, ht, State.abort_withPast]
  show (if s.tmfPend = true then if s.tmrArmed = true ∧ s.tmfGen = s.tmrGen then _ else _ else _) = _
  split
  · split <;> rfl
  · rfl

theorem State.consumeCancel_withPast : (s.withPast past).consumeCancel = s.consumeCancel.withPast past := by
  have ht : { s.withPast past with canPend := false } = { s with canPend := false }.withPast past := rfl
  simp only [State.consumeCancel, ht, State.uartDiscardTx_withPast, State.abort_withPast]
  show (if s.canPend = true then if s.state ≠ .ready ∧ s.canTag = s.tag then _ else _ else _) = _
  split
  · split <;> rfl
  · rfl

theorem State.sendUnit_withPast : (s.withPast past).sendUnit = s.sendUnit.withPast past := by
  have htx : (s.withPast past).trTx = s.trTx := rfl
  have hcfg : (s.withPast past).cfg = s.cfg := rfl
  simp only [State.sendUnit, htx, hcfg]
  split
  · rfl
  · split <;> rfl

theorem State.sendByte_withPast : (s.withPast past).sendByte = s.sendByte.withPast past := by
  have htx : (s.withPast past).trTx = s.trTx := rfl
  simp only [State.sendByte, htx]
  split <;> rfl

theorem State.takeTurn_withPast (turn : Turn) : (s.withPast past).takeTurn turn = (s.takeTurn turn).withPast past := by
  cases turn with
  | record r =>
    simp only [State.takeTurn, State.takeRecord]
    split <;> rfl
  | takeNotify => exact State.consumeNotify_withPast ..
  | takeTimer => exact congrArg Fetched.done (State.consumeTimer_withPast ..)
  | takeCancel => exact congrArg Fetched.done (State.consumeCancel_withPast ..)
  | arrive u => rfl
  | unitOut => exact State.sendUnit_withPast ..
  | byteOut => exact congrArg Fetched.done (State.sendByte_withPast ..)
  | reset => exact congrArg Fetched.done (State.eq_withPast (List.append_assoc ..) rfl)

theorem step_withPast : step (s.withPast past) = outcomeWithPast past (step s) := by
  have hfetch : (s.withPast past).fetch = s.fetch.withPast past := by
    have hturns : (s.withPast past).turns = s.turns := rfl
    unfold State.fetch
    rw [hturns]
    cases s.turns with
    | nil => rfl
    | cons turn rest => exact State.takeTurn_withPast past { s with turns := rest } turn
  unfold step
  rw [hfetch]
  cases s.fetch with
  | done t => rfl
  | run i t => exact exec_withPast past t i
  | reject r => rfl

end

/-- Settles O20: a history is a past before an empty one, and the outputs of the step from the empty one come after it. -/
theorem historyIsNeverRead : Obligations.HistoryIsNeverRead := by
  intro s t h
  have hs : s = { s with history := [] }.withPast s.history := by simp [State.withPast]
  rw [hs, step_withPast] at h
  cases h₀ : step { s with history := [] } with
  | next t₀ =>
    rw [h₀] at h
    cases h
    refine ⟨t₀.history, rfl, fun past => ?_⟩
    have hpast : { s with history := past } = { s with history := [] }.withPast past := by simp [State.withPast]
    rw [hpast, step_withPast, h₀]
    rfl
  | fault r => cases r
  | refused r => rw [h₀] at h; cases h

end Sys2Proof.Machine
end

section
/-! Proofs about the transport's calls for every answer (43_event_bridge.md R190), and about what rests on them alone: the
anomalous opcode write (R249) and the meanings of the units the block reads (41_state_machine.md R136 to R140). -/

namespace Sys2Proof.Machine

variable {s : State}

/-! ### The calls, for every answer (R190, I8) -/

theorem State.answer_nil (h : s.answers = []) : s.answer = (Config.freeCount s.draws, { s with draws := s.draws + 1 }) := by
  simp [State.answer, h]

/-- Whatever its answer, a write touches nothing but the transport's state, the draws and the history. -/
theorem State.uartWrite_any (bytes : List Byte) (s : State) :
    ∃ rx tx rt tt sent d, s.uartWrite bytes =
      (s.answer.1, { s.answer.2 with
        trRx := rx, trTx := tx, trRxThr := rt, trTxThr := tt, delivered := s.delivered ++ sent, draws := d
        history := s.history ++ [.uartWrite bytes s.answer.1] }) := by
  obtain ⟨as, d, ha⟩ := s.answer_frame
  simp only [State.uartWrite, ha]
  split
  · exact ⟨s.trRx, _, s.trRxThr, s.trTxThr, [], d, by rw [List.append_nil]; rfl⟩
  · exact ⟨_, _, _, _, _, d + 3, rfl⟩

/-- A write answered with 0 is taken whole. -/
theorem State.uartWrite_taken (bytes : List Byte) (h : s.answer.1 = 0) :
    s.uartWrite bytes =
      (0, { s.answer.2 with trTx := s.trTx ++ bytes, history := s.history ++ [.uartWrite bytes 0] }) := by
  rw [State.uartWrite_inContract (by simp [h, writeInContract]), h]
  simp

theorem State.uartRead_inContract {n : Nat} (h : readInContract s.answer.1 n s.trRx.length = true) :
    s.uartRead n = (s.answer.1, s.trRx.take s.answer.1.toInt.toNat, { s.answer.2 with
      trRx := s.trRx.drop s.answer.1.toInt.toNat
      history := s.history ++ [.uartRead n s.answer.1 (s.trRx.take s.answer.1.toInt.toNat)] }) := by
  obtain ⟨as, d, ha⟩ := s.answer_frame
  simp [State.uartRead, State.readBytes, h, ha, State.emit]

/-- Whatever its answer, a read touches nothing but the transport's state, the draws and the history, and the number of bytes
it returns is fixed (R12). -/
theorem State.uartRead_any (n : Nat) (s : State) :
    ∃ r rx tx rt tt sent d, r.length = (min s.answer.1.toInt n).toNat ∧ s.uartRead n =
      (s.answer.1, r, { s.answer.2 with
        trRx := rx, trTx := tx, trRxThr := rt, trTxThr := tt, delivered := s.delivered ++ sent, draws := d
        history := s.history ++ [.uartRead n s.answer.1 r] }) := by
  obtain ⟨as, d, ha⟩ := s.answer_frame
  have hlen := s.answer.2.readBytes_length n s.answer.1
  simp only [State.uartRead, ha] at hlen ⊢
  split
  · exact ⟨_, _, s.trTx, s.trRxThr, s.trTxThr, [], d, hlen, by rw [List.append_nil]; rfl⟩
  · exact ⟨_, _, _, _, _, _, d + 3, hlen, rfl⟩

/-- A count that is not negative has one value as a signed and as an unsigned number. -/
theorem toNat_toInt_of_nonneg {c : Word} (h : 0 ≤ c.toInt) : c.toInt.toNat = c.toNat := by
  rw [BitVec.toInt_eq_toNat_cond] at h ⊢
  split <;> omega

/-- Settles O40: the answer is the next of the list or a free draw; the calls in the contract, and for every answer. -/
theorem transportCalls : Obligations.TransportCalls := by
  intro s c a
  refine ⟨fun nw as h => ?_, fun h => ?_, fun bytes => ⟨fun hlo hhi => ?_, fun _ => s.uartWrite_any bytes⟩,
    fun n => ⟨fun hlo hhi hst => ?_, fun _ => s.uartRead_any n⟩⟩
  · exact ⟨congrArg Prod.fst (State.answer_cons h), congrArg Prod.snd (State.answer_cons h)⟩
  · exact ⟨congrArg Prod.fst (State.answer_nil h), congrArg Prod.snd (State.answer_nil h)⟩
  · rw [State.uartWrite_inContract (by simpa [writeInContract] using ⟨hlo, hhi⟩), toNat_toInt_of_nonneg hlo]
  · rw [State.uartRead_inContract (by simpa [readInContract, and_assoc] using ⟨hlo, hhi, hst⟩), toNat_toInt_of_nonneg hlo]

/-! ### The anomalous opcode write (R249) -/

/-- An opcode byte whose write answers neither 0 nor 1 is answered with `UnexpectedError` (R170). -/
theorem admission_frame_anomalous_eq {op : Byte} {p : List Byte} (hs : s.state = .ready) (hlen : p.length ≤ s.cfg.maxPayload)
    (h0 : s.answer.1 ≠ 0) (h1 : s.answer.1 ≠ 1) :
    ∃ rx tx rt tt sent d, s.admission (frame s.cfg op p) =
      { s.answer.2 with
        trRx := rx, trTx := tx, trRxThr := rt, trTxThr := tt, delivered := s.delivered ++ sent, draws := d
        history := s.history ++ [.uartWrite [op] s.answer.1, .admission .unexpectedError 0] } := by
  have hadm : s.admission (frame s.cfg op p) = (s.uartWrite [op]).2.emit (.admission .unexpectedError 0) := by
    rw [frame_of_fits hlen, State.admission, if_neg (not_not.2 hs)]
    exact (if_neg h1).trans (if_pos h0)
  obtain ⟨rx, tx, rt, tt, sent, d, hw⟩ := s.uartWrite_any [op]
  refine ⟨rx, tx, rt, tt, sent, d, ?_⟩
  rw [hadm, hw]
  simp [State.emit]

/-- Settles O33: both commands are admissions of a framed payload, of 9 and of 5 bytes. -/
theorem anomalousOpcodeWrite : Obligations.AnomalousOpcodeWrite := by
  intro s hs h0 h1
  refine ⟨fun index sub node data hlen => ?_, fun index sub node hpath hlen => ?_⟩
  · obtain ⟨rx, tx, rt, tt, sent, d, h⟩ :=
      admission_frame_anomalous_eq (op := s.cfg.opWrite) (p := writePayload index sub node data) hs hlen h0 h1
    exact ⟨rx, tx, rt, tt, sent, d, congrArg _ h⟩
  · obtain ⟨rx, tx, rt, tt, sent, d, h⟩ :=
      admission_frame_anomalous_eq (op := s.cfg.opRead) (p := readPayload index sub node) hs hlen h0 h1
    refine ⟨rx, tx, rt, tt, sent, d, ?_⟩
    simp only [exec, execCmdReadObject, hpath]
    exact congrArg _ h

/-! ### The meaning of the acks (R136, R138) -/

theorem exec_ackAccept (s : State) : exec .ackAccept s = .next (s.onAck .accepted) :=
  congrArg (fun v => Host.Outcome.next (s.onAck v)) (decAck_eq_accepted_iff.2 rfl)

theorem exec_ackReject {b : Byte} (hb : b ≠ s.cfg.ack) : exec (.ackReject b) s = .next (s.onAck .rejected) :=
  congrArg (fun v => Host.Outcome.next (s.onAck v)) (decAck_eq_rejected_iff.2 hb)

theorem State.onAck_elsewhere (v : Ack) (hb : s.state ≠ .waitingBeginAck) (he : s.state ≠ .waitingEndAck) :
    s.onAck v = s := by
  obtain ⟨-, hs, -⟩ | ⟨-, hs, -⟩ | ⟨-, hs, -⟩ | ⟨-, hs, -⟩ | ⟨-, -, h⟩ := s.onAck_cases v
  · exact absurd hs (not_or.2 ⟨hb, he⟩)
  · exact absurd hs hb
  · exact absurd hs he
  · exact absurd hs he
  · exact h

/-- A write inside a transaction that is taken whole moves it on (R136, R140). -/
theorem State.submit_taken {bytes : List Byte} {st : TransactionState} (ha : s.tmrArmed = true) (hst : st ≠ .ready)
    (h : s.answer.1 = 0) :
    let t := { s.answer.2 with trTx := s.trTx ++ bytes, history := s.history ++ [.uartWrite bytes 0] }
    s.submit bytes st = moved st (t.thr st).1 (t.thr st).2 t :=
  (State.submit_armed (State.uartWrite_taken bytes h) ha hst).2 rfl

/-- One that is not ends it, and of the transport's state it keeps the bytes sent before (R136, R140, I8). -/
theorem State.submit_refused {bytes : List Byte} {st : TransactionState} (ha : s.tmrArmed = true) (hst : st ≠ .ready)
    (h : s.answer.1 ≠ 0) :
    ∃ rx tx sent d, s.submit bytes st = ended .unexpectedError []
      { s.answer.2 with trRx := rx, trTx := tx, delivered := s.delivered ++ sent, draws := d,
                        history := s.history ++ [.uartWrite bytes s.answer.1] } := by
  obtain ⟨rx, tx, rt, tt, sent, d, hw⟩ := s.uartWrite_any bytes
  exact ⟨rx, tx, sent, d, (State.submit_armed hw ha hst).1 h⟩

theorem State.answer_cfg (s : State) : s.answer.2.cfg = s.cfg := by
  obtain ⟨_, _, h⟩ := s.answer_frame
  rw [h]

/-- Settles O36: `onAck` of an accept, state by state; in `WaitingBeginAck` the body is submitted. -/
theorem ackAcceptMeaning : Obligations.AckAcceptMeaning := by
  intro s hi
  have harmed := hi.armed
  rw [exec_ackAccept]
  refine ⟨fun hs h => ?_, fun hs h => ?_, fun hs hop => ?_, fun hs hop => ?_, fun hb he => ?_⟩
  · rw [State.onAck_begin_accepted hs, State.submit_taken (harmed (by simp [hs])) (by decide) h]
    simp only [State.thr, State.answer_cfg]
  · rw [State.onAck_begin_accepted hs]
    obtain ⟨rx, tx, sent, d, h⟩ := State.submit_refused (bytes := s.outbuf.take s.outlen) (st := .sendingData)
      (harmed (by simp [hs])) (by decide) h
    exact ⟨rx, tx, sent, d, congrArg _ h⟩
  · rw [State.onAck_end_accepted_write hs hop, State.finish_armed (harmed (by simp [hs]))]
  · rw [State.onAck_end_accepted_read hs hop, State.enter_armed (harmed (by simp [hs])) (by decide), State.thr]
  · rw [State.onAck_elsewhere _ hb he]

/-- Settles O37: `onAck` of a reject, in the two ack states and elsewhere. -/
theorem ackRejectMeaning : Obligations.AckRejectMeaning := by
  intro s b hi hb
  rw [exec_ackReject hb]
  refine ⟨fun hs => ?_, fun hb he => by rw [State.onAck_elsewhere _ hb he]⟩
  rw [State.onAck_rejected (hi.armed (by obtain hs | hs := hs <;> simp [hs])) hs]

/-- Settles O50: the body has `OUTLEN` bytes, and an answer in the contract takes the first of them. -/
theorem partialBodyStaysBehind : Obligations.PartialBodyStaysBehind := by
  intro s hi hs hpos hle
  obtain ⟨hsize, -, hout, -⟩ := hi.buffersOk
  have hlen : (s.outbuf.take s.outlen).length = s.outlen := by simp; omega
  have hne : s.answer.1 ≠ 0 := by intro h; simp [h] at hpos
  have hw : s.uartWrite (s.outbuf.take s.outlen) = (s.answer.1, { s.answer.2 with
      trTx := s.trTx ++ s.outbuf.take (s.outlen - s.answer.1.toNat)
      history := s.history ++ [.uartWrite (s.outbuf.take s.outlen) s.answer.1] }) := by
    rw [State.uartWrite_inContract (by simp only [writeInContract, hlen]; simp; omega), hlen,
      toNat_toInt_of_nonneg hpos.le, List.take_take, Nat.min_eq_left (Nat.sub_le ..)]
  rw [exec_ackAccept, State.onAck_begin_accepted hs]
  exact congrArg _ ((State.submit_armed hw (hi.armed (by simp [hs])) (by decide)).1 hne)

/-! ### The meaning of the response units (R139, R140) -/

/-- Settles O38: the two answers of `DEC_RSP_HDR`, and a no-op elsewhere. -/
theorem rspHeaderMeaning : Obligations.RspHeaderMeaning := by
  intro s h0 fill crc hi
  refine ⟨fun hs hcrc hmax => ?_, fun hs hbad => ?_, fun hs => by simp [exec, execRspHeader, hs]⟩
  · exact exec_rspHeader_good (hi.armed (by simp [hs])) hs (decRspHdr_eq_some_iff.2 ⟨hcrc, rfl, hmax⟩)
  · exact exec_rspHeader_bad (hi.armed (by simp [hs])) hs (decRspHdr_eq_none_iff.2 hbad)

/-- Response data of another length end the transaction with `UnexpectedError` (entry 10). -/
theorem exec_rspData_wrongLength {data : List Byte} {crc : Half} (ha : s.tmrArmed = true)
    (hs : s.state = .waitingResponseData) (hlen : data.length ≠ s.declLen) :
    exec (.rspData data crc) s = .next (ended .unexpectedError [] s) := by
  simp [exec, execRspData, hs, hlen, State.abort_armed ha, FailCode.outcome]

/-- Settles O39: the answers of `DEC_RSP_PAYLOAD`, the response-ack's write, and the two readings of entry 10. -/
theorem rspDataMeaning : Obligations.RspDataMeaning := by
  intro s data crc hi
  have harmed (hs : s.state = .waitingResponseData) : s.tmrArmed = true := hi.armed (by simp [hs])
  refine ⟨fun hs hlen hcrc h => ?_, fun hs hlen hcrc h => ?_, fun hs hlen hcrc => ?_, fun hs hlen => ?_,
    fun hs => by simp [exec, execRspData, hs]⟩
  · have hroom := (hi.declLen_of_waitingResponseData hs).2
    have hinbuf : overwrite s.inbuf data = data ++ s.inbuf.drop data.length := overwrite_fits (hlen ▸ hroom)
    obtain ⟨as, d, ha⟩ := s.answer_frame
    have ha₁ : (s.loadResponse data).answer.1 = 0 := by rw [State.answer_loadResponse]; exact h
    rw [exec_rspData_good hs hlen hcrc, State.submit_taken (by exact harmed hs) (by decide) ha₁,
      State.answer_loadResponse, ha]
    simp only [State.loadResponse, State.thr, hinbuf]
  · have ha₁ : (s.loadResponse data).answer.1 ≠ 0 := by rw [State.answer_loadResponse]; exact h
    obtain ⟨rx, tx, sent, d, hsub⟩ := State.submit_refused (s := s.loadResponse data) (bytes := [s.cfg.rspAck])
      (st := .sendingResponseAck) (harmed hs) (by decide) ha₁
    obtain ⟨as, d', ha⟩ := s.answer_frame
    refine ⟨rx, tx, sent, d, ?_⟩
    rw [exec_rspData_good hs hlen hcrc, hsub, State.answer_loadResponse, ha]
    rfl
  · exact exec_rspData_bad (harmed hs) hs hlen hcrc
  · exact exec_rspData_wrongLength (harmed hs) hs hlen

end Sys2Proof.Machine
end

section
/-! Proofs about the fetch (43_event_bridge.md R202): the step on a record, on a unit that leaves and on a unit that is read
is the meaning of the instruction it brings; the link's buffers are FIFOs; what waits in `Ready` and outside the block; and
the response rules under every format. -/

namespace Sys2Proof.Machine

variable {s : State}

/-! ### A unit that leaves (R190, R201) -/

theorem step_unitOut {rest : List Turn} {i : Instr} {more : List Byte} (hs : s.turns = .unitOut :: rest)
    (hd : decodeUnit s.cfg s.trTx = .ok (i, more)) : step s = exec i { s with turns := rest, trTx := more } := by
  cases htx : s.trTx with
  | nil => rw [htx] at hd; cases hd
  | cons b bytes =>
    rw [htx] at hd
    exact step_of_fetch_run (by simp [State.fetch, hs, State.takeTurn, State.sendUnit, htx, hd])

/-- Settles O27: a record and a unit that leaves by their fetch; a reply by the read of the expected unit. -/
theorem stepRunsDecodedInstruction : Obligations.StepRunsDecodedInstruction := by
  intro s rest i
  refine ⟨fun r hs hd => step_record_of_ok hs hd, fun more hs hd => step_unitOut hs hd,
    fun e cr u s₁ hs hp hm he hr hcr hd => step_of_fetch_run ?_⟩
  rw [State.fetch_takeNotify_readUnit hs hp hm he]
  simp [State.readUnit, hr, hcr, hd]

/-- Settles O34: the meaning of a sent unit is the delivery of its bytes. -/
theorem sentUnitReachesDevice : Obligations.SentUnitReachesDevice :=
  fun _ => ⟨rfl, rfl, fun _ _ _ _ _ => rfl, fun _ _ _ _ => rfl, rfl⟩

/-- The bytes a sent unit delivers are those of its encoding. -/
theorem exec_of_encode_toDevice {i : Instr} {u : List Byte} (h : encode s.cfg i = .toDevice u) :
    exec i s = .next (s.deliver u) := by
  cases i with
  | writeObject | readObject | writeBody | readBody | responseAck => cases h; rfl
  | ackAccept | ackReject | rspHeader | rspData | cmdWriteObject | cmdReadObject | cancel | notify | timerFired
  | reservedKind => cases h

/-- Settles O35: a whole unit is decoded from the front and delivered, a byte is the head, received bytes are appended. -/
theorem linkBuffersAreFifos : Obligations.LinkBuffersAreFifos := by
  intro s rest
  refine ⟨fun i u more hdistinct hs henc htx => ?_, fun b more hs htx => ?_, fun u hs => ?_⟩
  · have hd := transmittedUnitIsReadBack s.cfg i u more hdistinct henc
    rw [step_unitOut hs (htx ▸ hd)]
    exact exec_of_encode_toDevice henc
  · exact step_of_fetch_done (by simp [State.fetch, hs, State.takeTurn, State.sendByte, htx, State.deliver])
  · exact step_of_fetch_done (by simp [State.fetch, hs, State.takeTurn, State.receive])

/-! ### The latched records (R191, R193, R194) -/

/-- Settles O29: both meanings are the write of the latch. -/
theorem timerAndCancelWriteLatches : Obligations.TimerAndCancelWriteLatches :=
  ⟨fun _ _ => rfl, fun _ _ => rfl⟩

/-- Settles O30: each record decodes to its instruction, whose meaning is the write of its latch. -/
theorem latchedRecordsFromBits : Obligations.LatchedRecordsFromBits :=
  fun _ _ => ⟨fun rx tx hs => step_record_of_ok hs (decodeRecord_notify rx tx),
    fun g hs => step_record_of_ok hs (decodeRecord_timerFired g),
    fun tag hs => step_record_of_ok hs (decodeRecord_cancel tag)⟩

/-! ### A reset and what stands outside the block (entry 12) -/

/-- Settles O13: the step is `State.doReset`, which copies these fields. -/
theorem resetLeavesTheOutside : Obligations.ResetLeavesTheOutside :=
  fun _ _ hs => ⟨_, step_reset hs, rfl, rfl, rfl, rfl, rfl, rfl, rfl, rfl, rfl⟩

/-! ### Waiting in `Ready` (R222) -/

/-- In `Ready` both thresholds are 0, so no notification makes an event (R39, R192). -/
theorem State.Inv.notifyEvent_of_ready (hi : s.Inv) (hs : s.state = .ready) : s.notifyEvent = none := by
  obtain ⟨hready, -⟩ := hi
  obtain ⟨-, -, -, -, -, hrx, htx, -⟩ := hready hs
  exact State.notifyEvent_eq_none (by rw [hrx, meets_zero]) (by rw [htx, meets_zero])

/-- Settles O56: no turn, and in `Ready` each latch's step, pending or not. -/
theorem blockWaitsInReady : Obligations.BlockWaitsInReady := by
  intro s
  refine ⟨step_idle, fun rest hi hr hs => ?_, fun rest hi hr hs => ?_, fun rest hi hr hs => ?_⟩
  · cases hp : s.ntfPend with
    | true => exact step_of_fetch_done (State.fetch_takeNotify_no_event hs hp (hi.notifyEvent_of_ready hr))
    | false => exact step_of_fetch_done (by simp [State.fetch, hs, State.takeTurn, State.consumeNotify, hp])
  · rw [step_takeTimer hs]
    obtain ⟨hp, h⟩ | ⟨-, harmed, -⟩ | ⟨-, -, h⟩ := { s with turns := rest }.consumeTimer_cases
    · rw [h, ← show s.tmfPend = false from hp]
    · exact absurd harmed (by simp [(hi.idle hr).1])
    · rw [h]
  · rw [step_takeCancel hs]
    obtain ⟨hp, h⟩ | ⟨-, hbusy, -⟩ | ⟨-, -, h⟩ := { s with turns := rest }.consumeCancel_cases
    · rw [h, ← show s.canPend = false from hp]
    · exact absurd hr hbusy
    · rw [h]

/-! ### The other response formats (entry 7) -/

/-- Bytes that do not spell the expected unit end the transaction with `UnexpectedError`. -/
theorem step_reads_undecodable {s₁ : State} {rest : List Turn} {e : Expect} {cr : Word} {r : List Byte} {x : Reject}
    (hi : s.Inv) (he : s.expects = some e) (hs : s.turns = .takeNotify :: rest) (hp : s.ntfPend = true) (hpos : 0 < e.length)
    (hlt : e.length < 2 ^ 16) (hn : (e.length : Int) ≤ s.ntfRx.toInt)
    (hr : { s with turns := rest, ntfPend := false }.uartRead e.length = (cr, r, s₁))
    (hcr : cr = BitVec.ofNat 32 e.length) (hd : decodeReply s.cfg e r = .error x) :
    step s = .next (ended .unexpectedError [] s₁) := by
  have hfetch := State.fetch_takeNotify_readUnit hs hp (hi.meets_rxThr he hpos hlt hn) he
  have hcount : cr.toInt = (e.length : Int) := (toInt_eq_natCast_iff (by omega)).2 hcr
  have harmed : s₁.tmrArmed = true :=
    (State.uartRead_sameRegisters_of_notify hr).tmrArmed.trans (hi.armed (State.expects_busy he))
  have habort : s₁.abort .unexpectedError = ended .unexpectedError [] s₁ := State.abort_armed harmed _
  exact step_of_fetch_done (by simp [hfetch, State.readUnit, hr, hcount, hd, habort])

/-- A header too short for its length byte and its checksum spells no unit. -/
theorem decodeReply_header_short {c : Config} {r : List Byte} (h : r.length < 3) :
    decodeReply c (.header r.length) r = .error .wrongLength := by
  match r, h with
  | [], _ => rfl
  | [_], _ => rfl
  | [_, _], _ => rfl

/-- The bytes of a header of at least 3 bytes: the length byte, the bytes nothing reads, the checksum. -/
theorem exists_header_parts {r : List Byte} (h : 3 ≤ r.length) :
    ∃ h0 fill c0 c1, r = h0 :: (fill ++ [c0, c1]) ∧ fill.length + 3 = r.length := by
  match r, h with
  | h0 :: r, h =>
    rw [List.length_cons] at h
    obtain ⟨fill, c0, c1, rfl, hfill⟩ := exists_data_crc (r := r) (n := r.length - 2) (by omega)
    exact ⟨h0, fill, c0, c1, rfl, by rw [List.length_cons]; omega⟩

/-- R139 under every format: a header of `n ≥ 3` bytes that is read whole goes as `DEC_RSP_HDR` answers. -/
theorem step_reads_header {s₁ : State} {rest : List Turn} {cr : Word} {r : List Byte} (hi : s.Inv)
    (hst : s.state = .waitingResponseLength) (hs : s.turns = .takeNotify :: rest) (hp : s.ntfPend = true)
    (hn : (s.cfg.rspHdrLen.toNat : Int) ≤ s.ntfRx.toInt)
    (hr : { s with turns := rest, ntfPend := false }.uartRead s.cfg.rspHdrLen.toNat = (cr, r, s₁))
    (hcr : cr = BitVec.ofNat 32 s.cfg.rspHdrLen.toNat) (h3 : 3 ≤ s.cfg.rspHdrLen.toNat) :
    ∃ h0 fill c0 c1, r = h0 :: (fill ++ [c0, c1]) ∧ fill.length + 3 = s.cfg.rspHdrLen.toNat ∧
      (decRspHdr s.cfg h0 (join16 c0 c1) = none → step s = .next (ended .checksumError [] s₁)) ∧
      ∀ d, decRspHdr s.cfg h0 (join16 c0 c1) = some d → step s = .next
        (moved .waitingResponseData (BitVec.ofNat 16 (d + 2)) 0 { s₁ with rspLenM1 := h0, declLen := d }) := by
  have he : s.expects = some (.header s.cfg.rspHdrLen.toNat) := by simp [State.expects, hst]
  have hpos : 0 < s.cfg.rspHdrLen.toNat := by omega
  obtain ⟨hlen, hrun⟩ := (step_reads_unit hi he hs hp hpos s.cfg.rspHdrLen.isLt hn hr).2 hcr
  obtain ⟨h0, fill, c0, c1, rfl, hfill⟩ := exists_header_parts (h3.trans_eq hlen.symm)
  have hkeep := State.uartRead_sameRegisters_of_notify hr
  have hst₁ : s₁.state = .waitingResponseLength := hkeep.state.trans hst
  have harmed : s₁.tmrArmed = true := hkeep.tmrArmed.trans (hi.armed (by simp [hst]))
  have hfill' : fill.length + 3 = s.cfg.rspHdrLen.toNat := hfill.trans hlen
  have hstep := hrun _ (hfill' ▸ decodeReply_header s.cfg ⟨h0, fill⟩ c0 c1)
  refine ⟨h0, fill, c0, c1, rfl, hfill', fun hd => ?_, fun d hd => ?_⟩
  · rw [hstep, exec_rspHeader_bad harmed hst₁ (by rwa [hkeep.cfg])]
  · rw [hstep, exec_rspHeader_good harmed hst₁ (by rwa [hkeep.cfg])]

/-- R140 under every format: response data that are read whole go as their checksum over the covered bytes, and then as the
response-ack's write. -/
theorem step_reads_data {s₁ : State} {rest : List Turn} {cr : Word} {r : List Byte} (hi : s.Inv)
    (hst : s.state = .waitingResponseData) (hs : s.turns = .takeNotify :: rest) (hp : s.ntfPend = true)
    (hn : (s.declLen : Int) + 2 ≤ s.ntfRx.toInt)
    (hr : { s with turns := rest, ntfPend := false }.uartRead (s.declLen + 2) = (cr, r, s₁)) :
    (cr ≠ BitVec.ofNat 32 (s.declLen + 2) → step s = .next (ended .unexpectedError [] s₁)) ∧
    (cr = BitVec.ofNat 32 (s.declLen + 2) → ∃ data c0 c1, r = data ++ [c0, c1] ∧ data.length = s.declLen ∧
      let crc := crc16 s.cfg.crcOrder (dataCovered s.cfg s.rspLenM1 data)
      let s' : State := { s₁ with inbuf := data ++ s.inbuf.drop data.length, inlen := s.declLen }
      (join16 c0 c1 ≠ crc → step s = .next (ended .checksumError [] s₁)) ∧
      (join16 c0 c1 = crc → ∀ nw s₂, s'.uartWrite [s.cfg.rspAck] = (nw, s₂) →
        (nw ≠ 0 → step s = .next (ended .unexpectedError [] s₂)) ∧
        (nw = 0 → step s = .next (moved .sendingResponseAck 0 s.cfg.txCap s₂)))) := by
  obtain ⟨hdecl, hroom⟩ := hi.declLen_of_waitingResponseData hst
  have hshort : s.declLen ≤ 512 := hdecl ▸ declared_le ..
  have he : s.expects = some (.data s.declLen) := by simp [State.expects, hst]
  obtain ⟨hbad, hgood⟩ := step_reads_unit hi he hs hp (Nat.succ_pos _) (show s.declLen + 2 < 2 ^ 16 by omega)
    (by exact_mod_cast hn) hr
  refine ⟨hbad, fun hcr => ?_⟩
  obtain ⟨hlen, hrun⟩ := hgood hcr
  obtain ⟨data, c0, c1, rfl, hdata⟩ := exists_data_crc hlen
  have hkeep := State.uartRead_sameRegisters_of_notify hr
  have hst₁ : s₁.state = .waitingResponseData := hkeep.state.trans hst
  have harmed : s₁.tmrArmed = true := hkeep.tmrArmed.trans (hi.armed (by simp [hst]))
  have hdata₁ : data.length = s₁.declLen := hdata.trans hkeep.declLen.symm
  have hstep := hrun _ (hdata ▸ decodeReply_data s.cfg data c0 c1)
  have hcover : dataCovered s₁.cfg s₁.rspLenM1 data = dataCovered s.cfg s.rspLenM1 data := by rw [hkeep.cfg, hkeep.rspLenM1]
  have hload : s₁.loadResponse data = { s₁ with inbuf := data ++ s.inbuf.drop data.length, inlen := s.declLen } := by
    rw [State.loadResponse, hkeep.inbuf, hkeep.declLen, overwrite_fits (hdata ▸ hroom)]
  refine ⟨data, c0, c1, rfl, hdata, fun hcrc => ?_, fun hcrc nw s₂ hw => ?_⟩
  · rw [hstep, exec_rspData_bad harmed hst₁ hdata₁ (by rwa [hcover, hkeep.cfg])]
  · have hcfg : s₂.cfg = s.cfg := (State.uartWrite_sameRegisters hw).cfg.trans hkeep.cfg
    obtain ⟨hrefused, htaken⟩ := State.submit_armed (st := .sendingResponseAck) hw harmed (by decide)
    rw [hstep, exec_rspData_good hst₁ hdata₁ (by rwa [hcover, hkeep.cfg]), hkeep.cfg, hload]
    exact ⟨fun h => congrArg _ (hrefused h), fun h => by rw [htaken h, State.thr, hcfg]⟩

/-- Settles O46: the two rules under every format, with what the length unit counts and what the checksum covers. -/
theorem otherResponseFormats : Obligations.OtherResponseFormats := by
  intro s s₁ rest cr r hi _ hs hp n len covered
  have hdeclared (h0 : Byte) : declared s.cfg h0 = len h0 := by
    simp only [declared, len]
    cases s.cfg.respFormat.lenUnit <;> simp [LengthUnit.bytes]
  have hcovered (data : List Byte) : dataCovered s.cfg s.rspLenM1 data = covered data := by
    simp only [dataCovered, covered]
    cases s.cfg.respFormat.coverage <;> rfl
  refine ⟨fun hst hn0 hn hr => ⟨fun hbad => ?_, fun hcr h3 => ?_⟩, fun hst hn hr => ?_⟩
  · have he : s.expects = some (.header n) := by simp [State.expects, hst, n]
    have hpos : 0 < (Expect.header n).length := Nat.pos_of_ne_zero hn0
    have hlt : (Expect.header n).length < 2 ^ 16 := s.cfg.rspHdrLen.isLt
    obtain ⟨hshort, hfull⟩ := step_reads_unit hi he hs hp hpos hlt hn hr
    by_cases hcr : cr = BitVec.ofNat 32 n
    · have h3 : n < 3 := hbad.resolve_left (not_not.2 hcr)
      have hlen : r.length = n := (hfull hcr).1
      exact step_reads_undecodable hi he hs hp hpos hlt hn hr hcr (hlen ▸ decodeReply_header_short (hlen ▸ h3))
    · exact hshort hcr
  · obtain ⟨h0, fill, c0, c1, hrw, hfill, hnone, hsome⟩ := step_reads_header hi hst hs hp hn hr hcr h3
    refine ⟨h0, fill, c0, c1, hrw, hfill, fun hrej => hnone ?_, fun hgood hmax => hsome _ ?_⟩
    · rwa [decRspHdr_eq_none_iff, hdeclared, ne_eq, ← join16_eq_iff_toNat]
    · rw [decRspHdr_eq_some_iff, hdeclared]
      exact ⟨join16_eq_iff_toNat.1 hgood, rfl, hmax⟩
  · obtain ⟨hshort, hfull⟩ := step_reads_data hi hst hs hp hn hr
    refine ⟨hshort, fun hcr => ?_⟩
    obtain ⟨data, c0, c1, hrw, hdata, hbad, hgood⟩ := hfull hcr
    rw [hcovered] at hbad hgood
    exact ⟨data, c0, c1, hrw, hdata, fun h => hbad (fun hj => h (join16_eq_iff_toNat.2 hj)),
      fun h => hgood (join16_eq_iff_toNat.1 h)⟩

end Sys2Proof.Machine
end

section
/-! Proofs about runs (41_state_machine.md R145, 43_event_bridge.md R197 to R199, 70_reset_and_hazards.md R254): what a run
keeps, what a step of a transaction in flight can end in, and what the agents' assumptions make of it. -/

namespace Sys2Proof.Machine

variable {s t u v : State} {st : TransactionState} {out : List OutEvent} {o : TermOutcome} {p : List Byte}

/-! ### Inductions over a run -/

/-- What every step keeps holds along a run. -/
theorem Reaches.keeps {P : State → Prop} (hstep : ∀ a b, P a → step a = .next b → P b) {k : Nat} (hr : Reaches k s t)
    (h : P s) : P t := by
  induction k generalizing s with
  | zero => cases hr; exact h
  | succ k ih =>
    obtain ⟨u, hu, hr⟩ := hr
    exact ih hr (hstep _ _ h hu)

theorem Reaches.inv {k : Nat} (hr : Reaches k s t) (hi : s.Inv) : t.Inv := hr.keeps stepKeepsInvariant hi

theorem Reaches.programmed {k : Nat} (hr : Reaches k s t) (hp : s.Programmed) : t.Programmed :=
  hr.keeps transportStaysProgrammed hp

theorem Reaches.cfg {k : Nat} (hr : Reaches k s t) : t.cfg = s.cfg :=
  hr.keeps (P := fun a => a.cfg = s.cfg) (fun a b ha h => (configurationIsFixed a b h).1.trans ha) rfl

/-- What every step keeps that stays in `st` holds at the end of a run, unless the run has a step that leaves `st`. -/
theorem Reaches.keeps_or_leaves {P : State → Prop}
    (hstep : ∀ a b, P a → step a = .next b → b.state = st → P b) {k : Nat} (hr : Reaches k s t) (h : P s) :
    P t ∨ ∃ j a b, Reaches j s a ∧ P a ∧ step a = .next b ∧ b.state ≠ st := by
  induction k generalizing s with
  | zero => cases hr; exact .inl h
  | succ k ih =>
    obtain ⟨u, hu, hr⟩ := hr
    by_cases hst : u.state = st
    · obtain ht | ⟨j, a, b, hj, hrest⟩ := ih hr (hstep _ _ h hu hst)
      · exact .inl ht
      · exact .inr ⟨j + 1, a, b, ⟨u, hu, hj⟩, hrest⟩
    · exact .inr ⟨0, s, u, rfl, h, hu, hst⟩

/-! ### A step of a transaction in flight -/

/-- A step in flight that keeps `STATE` stays: it makes no call and sets no threshold. -/
theorem quiet_of_state_eq (h : step s = .next t) (hb : s.state ≠ .ready) (hst : t.state = s.state) : Quiet s t := by
  cases step_effect h with
  | stays hq => exact hq
  | refuses hs => exact absurd hs hb
  | admits hs => exact absurd hs hb
  | moves _ hv => exact absurd ((State.enter_state ..).symm.trans hst) hv.ne_ready.2.2
  | ends => exact absurd ((State.finish_state ..).symm.trans hst).symm hb
  | resets => exact absurd hst.symm hb

theorem Advance.code_lt (h : Advance s u st v) : s.state.code.toNat < st.code.toNat := by
  cases h with
  | opcodeSent hs | bodyTaken hs | bodySent hs | readAcked hs | headerHeld hs | dataHeld hs => rw [hs]; decide

/-- A step in flight that changes `STATE` goes forward with the same tag, or to `Ready` with the completion record of the tag
as its last output, or resets. -/
theorem forward_or_ends (h : step s = .next t) (hb : s.state ≠ .ready) (hst : t.state ≠ s.state) :
    (t.state ≠ .ready ∧ s.state.code.toNat < t.state.code.toNat ∧ t.tag = s.tag) ∨
      (t.state = .ready ∧ (s.turns.head? ≠ some .reset →
        ∃ o p, EndsWith s o p ∧ t.history.getLast? = some (.complete s.tag o p))) := by
  cases step_effect h with
  | stays hq => exact absurd hq.same.state hst
  | refuses hs => exact absurd hs hb
  | admits hs => exact absurd hs hb
  | moves hu hv =>
    obtain ⟨-, hready, -⟩ := hv.ne_ready
    rw [State.enter_state]
    refine .inl ⟨hready, hv.code_lt, ?_⟩
    rw [State.enter_busy hready]
    exact hv.tag.trans hu.same.tag
  | @ends u _ o p hu ho =>
    refine .inr ⟨State.finish_state .., fun _ => ⟨o, p, ho, ?_⟩⟩
    simp [State.finish_eq, hu.same.tag]
  | resets hs => exact .inr ⟨rfl, fun hr => absurd (by rw [hs]; rfl) hr⟩

/-! ### The notification a state waits for (R197, R192) -/

/-- In flight either the receive threshold is the length of the unit the state reads and the other is 0, or the state is a
Sending one, which has a transmit threshold only (R131). -/
theorem State.Inv.direction (hi : s.Inv) (hb : s.state ≠ .ready) :
    (∃ e, s.expects = some e ∧ s.rxThr.toNat = e.length ∧ s.txThr = 0) ∨
      ((s.state = .sendingOpcode ∨ s.state = .sendingData ∨ s.state = .sendingResponseAck) ∧ s.expects = none ∧
        s.rxThr = 0 ∧ s.txThr = s.cfg.txCap) := by
  obtain ⟨hrx, htx⟩ := Prod.mk.inj hi.thresholdsSet
  cases hs : s.state with
  | ready => exact absurd hs hb
  | sendingOpcode | sendingData | sendingResponseAck =>
    rw [hs] at hrx htx
    exact .inr ⟨by simp, by simp [State.expects, hs], hrx, htx⟩
  | waitingBeginAck | waitingEndAck =>
    rw [hs] at hrx htx
    exact .inl ⟨.ack, by simp [State.expects, hs], congrArg BitVec.toNat hrx, htx⟩
  | waitingResponseLength =>
    rw [hs] at hrx htx
    exact .inl ⟨.header s.cfg.rspHdrLen.toNat, by simp [State.expects, hs], congrArg BitVec.toNat hrx, htx⟩
  | waitingResponseData =>
    have hd : s.declLen ≤ 512 := (hi.header (.inl hs)).1 ▸ declared_le ..
    rw [hs] at hrx htx
    have hlen : s.rxThr = BitVec.ofNat 16 (s.declLen + 2) := hrx
    refine .inl ⟨.data s.declLen, by simp [State.expects, hs], ?_, htx⟩
    rw [hlen, BitVec.toNat_ofNat, Nat.mod_eq_of_lt (by omega), Expect.length]

theorem meets_of_toNat {n : Word} {thr : Half} (h0 : 0 < thr.toNat) (h : (thr.toNat : Int) ≤ n.toInt) : meets n thr = true :=
  meets_eq_true_iff.2 ⟨by rintro rfl; simp at h0, h⟩

/-- Settles O51: a threshold that is met is the one of the state's direction. -/
theorem dueNotificationIsTheEvent : Obligations.DueNotificationIsTheEvent := by
  intro s hi hp hb
  obtain ⟨hrx, htx⟩ := hp hb
  refine ⟨fun ⟨h0, hmet⟩ hn => ?_, fun ⟨h0, hmet⟩ hn => ?_⟩
  · rw [hrx] at h0 hmet
    refine ⟨State.notifyEvent_eq_rxAvailable (meets_of_toNat h0 (by omega)), ?_⟩
    obtain ⟨e, he, hlen, -⟩ | ⟨-, -, hzero, -⟩ := hi.direction hb
    · exact ⟨e, he, hlen ▸ hmet⟩
    · rw [hzero] at h0
      exact absurd h0 (by decide)
  · rw [htx] at h0 hmet
    obtain ⟨-, -, -, hzero⟩ | ⟨hst, -, hzero, -⟩ := hi.direction hb
    · rw [hzero] at h0
      exact absurd h0 (by decide)
    · exact ⟨State.notifyEvent_eq_txFree (by rw [hzero, meets_zero]) (meets_of_toNat h0 (hn ▸ hmet)), hst⟩

/-- The event a state waits for is a received unit where it reads one, else a drained transmit buffer. -/
theorem State.awaitedEvent_of_expects {e : Expect} (he : s.expects = some e) :
    s.awaitedEvent = some (.rxAvailable s.ntfRx) := by
  obtain ⟨hs | hs, -⟩ | ⟨hs, -⟩ | ⟨hs, -⟩ := State.expects_cases he <;> simp [State.awaitedEvent, hs]

theorem State.awaitedEvent_of_sending
    (hs : s.state = .sendingOpcode ∨ s.state = .sendingData ∨ s.state = .sendingResponseAck) :
    s.awaitedEvent = some (.txFree s.ntfTx) := by
  obtain hs | hs | hs := hs <;> simp [State.awaitedEvent, hs]

/-- A step that stays does not make a condition lapse: received bytes are only added, sent bytes only leave (R197). -/
theorem Quiet.due (h : Quiet s t) (hd : s.due) : t.due := by
  have hrx := h.received.length_le
  have htx := h.unsent.length_le
  obtain ⟨h0, hmet⟩ | ⟨h0, hmet⟩ := hd
  · left
    rw [State.rxDue, h.trRxThr]
    exact ⟨h0, hmet.trans hrx⟩
  · right
    rw [State.txDue, State.txFreeCount, h.trTxThr, h.same.trCap]
    rw [State.txFreeCount] at hmet
    exact ⟨h0, by omega⟩

/-- Where the condition holds and the transport notifies, the step latches the event the state waits for. -/
theorem step_notifies (hi : s.Inv) (hp : s.Programmed) (hb : s.state ≠ .ready) (hd : s.due) (hn : s.Notifies) :
    ∃ w, step s = .next w ∧ w.state = s.state ∧ w.ntfPend = true ∧ w.notifyEvent = w.awaitedEvent ∧ w.due := by
  obtain ⟨r, rest, rx, tx, hs, hdec, hrx, htx⟩ := hn
  have hiw : ({ s with turns := rest }.latchNotify rx tx).Inv := SameBlock.inv (s := s) rfl hi
  obtain ⟨hrxEvent, htxEvent⟩ := dueNotificationIsTheEvent _ hiw hp hb
  refine ⟨_, (step_record_of_ok hs hdec).trans (exec_notify ..), rfl, rfl, ?_, hd⟩
  obtain hd | hd := hd
  · obtain ⟨hev, e, he, -⟩ := hrxEvent hd hrx
    rw [hev, State.awaitedEvent_of_expects he]
  · obtain ⟨hev, hst⟩ := htxEvent hd htx
    rw [hev, State.awaitedEvent_of_sending hst]

/-- Settles O52: A-LEVEL gives a notification or a lapse, and while the block is in the state no condition lapses. -/
theorem awaitedEventIsNotified : Obligations.AwaitedEventIsNotified := by
  intro s t u j hi hp hlevel hr hstep hb hd hset
  have hu := hr.trans (Reaches.single hstep)
  obtain ⟨k, v, hv, hnotify⟩ := hlevel j t u hr hstep hd hset
  have hkeep (a b : State) (ha : a.state = u.state ∧ a.due) (h : step a = .next b) (hst : b.state = u.state) :
      b.state = u.state ∧ b.due := by
    obtain ⟨hau, had⟩ := ha
    exact ⟨hst, (quiet_of_state_eq h (hau ▸ hb) (hst.trans hau.symm)).due had⟩
  obtain ⟨hvu, hvd⟩ | ⟨i, a, b, ha, -, hab, hne⟩ := hv.keeps_or_leaves hkeep ⟨rfl, hd⟩
  · have hrun := hu.trans hv
    obtain ⟨w, hw, hwst, hrest⟩ := step_notifies (hrun.inv hi) (hrun.programmed hp) (hvu ▸ hb) hvd
      (hnotify.resolve_right (not_not.2 hvd))
    exact ⟨k, v, hv, .inr ⟨w, hw, hwst.trans hvu, hrest⟩⟩
  · exact ⟨i + 1, b, ha.trans (Reaches.single hab), .inl hne⟩

/-! ### Every transaction ends (R145, R199) -/

/-- The wait of the state `s` still runs at `a`, for the same transaction. -/
structure StillWaits (s a : State) : Prop where
  inv : a.Inv
  state : a.state = s.state
  tag : a.tag = s.tag
  tmrArmed : a.tmrArmed = true
  tmrGen : a.tmrGen = s.tmrGen

theorem StillWaits.step {a b : State} (h : StillWaits s a) (hb : s.state ≠ .ready) (hs : step a = .next b)
    (hst : b.state = s.state) : StillWaits s b := by
  have hk := (quiet_of_state_eq hs (h.state ▸ hb) (hst.trans h.state.symm)).same
  exact ⟨stepKeepsInvariant _ _ h.inv hs, hst, hk.tag.trans h.tag, hk.tmrArmed.trans h.tmrArmed, hk.tmrGen.trans h.tmrGen⟩

/-- Under fairness the wait of a state in flight comes to a step that leaves the state. -/
theorem exists_step_leaving (hi : s.Inv) (hf : s.TimerFair) (hb : s.state ≠ .ready) :
    ∃ k a b, Reaches k s a ∧ StillWaits s a ∧ step a = .next b ∧ b.state ≠ s.state := by
  have harmed := hi.armed hb
  obtain ⟨k, a, ha, hfire⟩ := hf 0 s rfl harmed
  have hkeep (a b : State) (ha : StillWaits s a) (h : step a = .next b) (hst : b.state = s.state) : StillWaits s b :=
    ha.step hb h hst
  obtain hw | ⟨j, a, b, hrest⟩ := ha.keeps_or_leaves hkeep ⟨hi, rfl, rfl, harmed, rfl⟩
  · obtain hoff | hgen | ⟨hturn, hpend, hgen⟩ := hfire
    · exact absurd (hoff.symm.trans hw.tmrArmed) (by decide)
    · exact absurd hw.tmrGen hgen
    · obtain ⟨rest, hs⟩ := List.head?_eq_some_iff.1 hturn
      have hstep := (timerFireRule a rest hs hpend).1 hw.tmrArmed (hgen.trans hw.tmrGen.symm)
      exact ⟨k, a, _, ha, hw, hstep, hb.symm⟩
  · exact ⟨j, a, b, hrest⟩

/-- The transaction in flight ends, since each state it can be left for is a later one; `n` bounds how many there are. -/
theorem exists_end (n : Nat) (hn : 8 ≤ s.state.code.toNat + n) (hi : s.Inv) (hf : s.TimerFair) (hb : s.state ≠ .ready) :
    ∃ k t u, Reaches k s t ∧ t.state ≠ .ready ∧ t.tag = s.tag ∧ step t = .next u ∧ u.state = .ready ∧
      (t.turns.head? ≠ some .reset → ∃ o p, u.history.getLast? = some (.complete s.tag o p)) := by
  induction n generalizing s with
  | zero => exact absurd s.state.code.isLt (by omega)
  | succ n ih =>
    obtain ⟨k, a, b, ha, hw, hab, hne⟩ := exists_step_leaving hi hf hb
    obtain ⟨hbusy, hlt, htag⟩ | ⟨hready, hlast⟩ := forward_or_ends hab (hw.state ▸ hb) (hw.state ▸ hne)
    · have hrun := ha.trans (Reaches.single hab)
      rw [hw.state] at hlt
      obtain ⟨j, t, u, ht, hbt, htt, hrest⟩ := ih (by omega) (hrun.inv hi) (hf.later hrun) hbusy
      rw [htag, hw.tag] at htt hrest
      exact ⟨k + 1 + j, t, u, hrun.trans ht, hbt, htt, hrest⟩
    · refine ⟨k, a, b, ha, hw.state ▸ hb, hw.tag, hab, hready, fun hr => ?_⟩
      obtain ⟨o, p, -, h⟩ := hlast hr
      exact ⟨o, p, hw.tag ▸ h⟩

/-- Settles O53: fairness ends the wait of each state, and the states of a transaction are in order. -/
theorem everyTransactionEnds : Obligations.EveryTransactionEnds :=
  fun _ hi hf hb => exists_end 8 (Nat.le_add_left ..) hi hf hb

/-! ### A transport that is too small for a write's body (R254, first hazard) -/

/-- A write in flight has not got past its body, on a transport of a capacity below 11. -/
structure WriteHeldBack (s : State) : Prop where
  inv : s.Inv
  capacity : s.Capacity
  opcodes : s.cfg.opWrite ≠ s.cfg.opRead
  small : s.trCap < 11
  early : s.state ≠ .ready → s.opcode = s.cfg.opWrite → s.state = .sendingOpcode ∨ s.state = .waitingBeginAck

/-- The body of a write has 11 bytes (R71, R26). -/
theorem State.Inv.body_length (hi : s.Inv) (hb : s.state ≠ .ready) (hop : s.opcode = s.cfg.opWrite)
    (hne : s.cfg.opWrite ≠ s.cfg.opRead) : (s.outbuf.take s.outlen).length = 11 := by
  obtain ⟨hreq, -⟩ := hi.holdsRequest hb
  obtain ⟨hsize, -, hle, -⟩ := hi.buffersOk
  obtain ⟨-, hlen⟩ := hreq.resolve_right fun h => hne (hop.symm.trans h.1)
  rw [List.length_take, hsize]
  omega

theorem WriteHeldBack.step (h : WriteHeldBack s) (hstep : step s = .next t) : WriteHeldBack t := by
  obtain ⟨hcfg, hcap⟩ := configurationIsFixed s t hstep
  have hct := h.capacity.later (Reaches.single hstep)
  refine ⟨stepKeepsInvariant _ _ h.inv hstep, hct, hcfg ▸ h.opcodes, hcap ▸ h.small, fun hb hop => ?_⟩
  rw [hcfg] at hop
  cases step_effect hstep with
  | stays hq =>
    rw [hq.same.state] at hb ⊢
    exact h.early hb (hq.same.opcode ▸ hop)
  | refuses hr hu => exact absurd (hu.same.state.trans hr) hb
  | admits => exact .inl (by rw [State.emit_state, State.enter_state])
  | @moves u v _ st hu hv =>
    obtain ⟨hbusy, hst, -⟩ := hv.ne_ready
    rw [State.enter_busy hst] at hop hct
    have hops : s.opcode = s.cfg.opWrite := (hv.opcode.trans hu.same.opcode).symm.trans hop
    have hearly := h.early hbusy hops
    rw [State.enter_state]
    cases hv with
    | opcodeSent => exact .inr rfl
    | bodyTaken _ hbody =>
      obtain ⟨hroom, -⟩ := hct 0 _ rfl
      have hlen := h.inv.body_length hbusy hops h.opcodes
      have := hbody.length_le
      have hsmall := h.small
      have hcap' : u.trCap = s.trCap := hu.same.trCap
      exact absurd (show u.trTx.length ≤ u.trCap from hroom) (by omega)
    | bodySent hs | readAcked hs | headerHeld hs | dataHeld hs => simp [hs] at hearly
  | ends => exact absurd (State.finish_state ..) hb
  | resets => exact absurd rfl hb

/-- Settles O54: a body taken whole would not fit, so `SendingData` is not entered and the body's write is refused. -/
theorem smallTransmitBufferFailsWrites : Obligations.SmallTransmitBufferFailsWrites := by
  intro s t u j hi hc hne hcap hsmall hst hr hb hop hstep
  have hs : WriteHeldBack s := by
    refine ⟨hi, hc, hne, by omega, fun hb _ => ?_⟩
    obtain h | h | h := hst
    · exact absurd h hb
    · exact .inl h
    · exact .inr h
  have hcfg := hr.cfg
  have ht : WriteHeldBack t := hr.keeps (fun _ _ h hs => h.step hs) hs
  rw [← hcfg] at hop
  have hearly := ht.early hb hop
  refine ⟨hearly, fun out tag o p hh hm => ?_, fun rest s₁ hwait hturn hp hn hread => ?_⟩
  · rintro rfl
    obtain ⟨hend, -⟩ := (step_effect hstep).of_complete_mem hh hm
    cases hend with
    | written h => simp [h] at hearly
    | response h => simp [h] at hearly
  · obtain ⟨-, hgood⟩ := beginAckRule t s₁ rest 1 _ ht.inv hwait hturn hp hn hread
    obtain ⟨b, hb', -, hwrite⟩ := hgood rfl
    obtain ⟨hrefused, htaken⟩ := hwrite (List.singleton_inj.1 hb').symm _ _ rfl
    by_cases h0 : (s₁.uartWrite (t.outbuf.take t.outlen)).1 = 0
    · rw [htaken h0] at hstep
      cases hstep
      have hread' := State.uartRead_sameRegisters_of_notify hread
      have hwrite' := State.uartWrite_sameRegisters (s := s₁) (bytes := t.outbuf.take t.outlen) rfl
      have hlate := (ht.step (htaken h0)).early nofun <| calc
        _ = t.opcode := hwrite'.opcode.trans hread'.opcode
        _ = t.cfg.opWrite := hop
        _ = _ := congrArg Config.opWrite (hwrite'.cfg.trans hread'.cfg).symm
      simp [moved] at hlate
    · rw [hrefused h0] at hstep
      cases hstep
      rfl

/-! ### A `P_TX_CAP` above the transport's capacity (R254, third hazard) -/

/-- No transaction has got past its opcode byte, on a transport of a capacity below `P_TX_CAP`. -/
structure OpcodeHeldBack (s : State) : Prop where
  inv : s.Inv
  capacity : s.Capacity
  large : s.trCap < s.cfg.txCap.toNat
  early : s.state = .ready ∨ s.state = .sendingOpcode

/-- A transport that keeps to its capacity never reports `P_TX_CAP` bytes free. -/
theorem OpcodeHeldBack.unmet (h : OpcodeHeldBack s) (hp : s.ntfPend = true) : meets s.ntfTx s.cfg.txCap = false := by
  obtain ⟨-, hfree⟩ := h.capacity 0 s rfl
  have hlarge := h.large
  exact meets_eq_false_iff.2 (.inr ((hfree hp).trans_lt (by exact_mod_cast hlarge)))

theorem OpcodeHeldBack.notifyEvent (h : OpcodeHeldBack s) (hp : s.ntfPend = true) : s.notifyEvent = none := by
  obtain hs | hs := h.early
  · exact h.inv.notifyEvent_of_ready hs
  · obtain ⟨hrx, htx⟩ := Prod.mk.inj h.inv.thresholdsSet
    rw [hs] at hrx htx
    exact State.notifyEvent_eq_none (by rw [hrx]; exact meets_zero _) (by rw [htx]; exact h.unmet hp)

theorem OpcodeHeldBack.step (h : OpcodeHeldBack s) (hstep : step s = .next t) : OpcodeHeldBack t := by
  obtain ⟨hcfg, hcap⟩ := configurationIsFixed s t hstep
  refine ⟨stepKeepsInvariant _ _ h.inv hstep, h.capacity.later (Reaches.single hstep), by rw [hcfg, hcap]; exact h.large, ?_⟩
  have hearly := h.early
  cases step_effect hstep with
  | stays hq => rwa [hq.same.state]
  | refuses hr hu => exact .inl (hu.same.state.trans hr)
  | admits => exact .inr (by rw [State.emit_state, State.enter_state])
  | moves hu hv =>
    cases hv with
    | opcodeSent hs hp hm =>
      have htx : s.txThr = s.cfg.txCap := by rw [(Prod.mk.inj h.inv.thresholdsSet).2, hs]
      rw [htx, h.unmet hp] at hm
      cases hm
    | bodyTaken hs | bodySent hs | readAcked hs | headerHeld hs | dataHeld hs => simp [hs] at hearly
  | ends => exact .inl (State.finish_state ..)
  | resets => exact .inl rfl

/-- In `SendingOpcode` a transaction ends with `Timeout` only. -/
theorem OpcodeHeldBack.endsWith (h : OpcodeHeldBack s) (ho : EndsWith s o p) : o = .timeout ∧ p = [] := by
  have hearly := h.early
  cases ho with
  | timeout => exact ⟨rfl, rfl⟩
  | nack hs => obtain hs | hs := hs <;> simp [hs] at hearly
  | written hs => simp [hs] at hearly
  | checksum hs => obtain hs | hs := hs <;> simp [hs] at hearly
  | unexpected he => obtain hs | hs := hearly <;> simp [State.expects, hs] at he
  | response hs => simp [hs] at hearly

/-- Settles O55: the run keeps `OpcodeHeldBack`, under which the only end is `Timeout`; fairness brings it. -/
theorem largeTxCapTimesOut : Obligations.LargeTxCapTimesOut := by
  intro s t j hi hc hlarge hst hr
  have hs : OpcodeHeldBack s := ⟨hi, hc, hlarge, hst⟩
  have hrun {k : Nat} {a b : State} (hab : Reaches k a b) (ha : OpcodeHeldBack a) : OpcodeHeldBack b :=
    hab.keeps (fun _ _ h hs => h.step hs) ha
  have ht := hrun hr hs
  refine ⟨ht.early, ht.notifyEvent, fun u out tag o p hstep hh hm => ?_, fun hf hsend => ?_⟩
  · obtain ⟨hend, -⟩ := (step_effect hstep).of_complete_mem hh hm
    exact (ht.endsWith hend).1
  · have hbusy : t.state ≠ .ready := by simp [hsend]
    obtain ⟨k, a, b, ha, hba, htag, hab, hready, -⟩ := everyTransactionEnds t ht.inv (hf.later hr) hbusy
    have hheld := hrun ha ht
    refine ⟨k, a, b, ha, hheld.early.resolve_left hba, htag, hab, hready, fun hreset => ?_⟩
    obtain ⟨hb, -⟩ | ⟨-, hlast⟩ := forward_or_ends hab hba (by rw [hready]; exact hba.symm)
    · exact absurd hready hb
    · obtain ⟨o, p, hend, hlast⟩ := hlast hreset
      obtain ⟨rfl, rfl⟩ := hheld.endsWith hend
      rw [hlast, htag]

end Sys2Proof.Machine
end
